-- ==== Sys2Proof/Word.lean ====
section
/-! DEFINITION. The word types of CORE (rules R10, R70, R130): bytes, 16-bit calibration and sample patterns, and the
32-bit pattern every pipeline register holds. A 32-bit pattern is read as an `s32` (`toInt`) or as a `u32` (`toNat`);
which of the two is fixed per register by rule R39. -/

namespace Sys2Proof

/-- A bus byte, a register address or a command byte (R10 `u8`, R70, R80). -/
abbrev Byte := BitVec 8

/-- A 16-bit pattern: a calibration entry (R32) or UT (R35). -/
abbrev Half := BitVec 16

/-- A 32-bit pattern: every pipeline intermediate (R39, R130, INT_W of R8). -/
abbrev W32 := BitVec 32

end Sys2Proof
end

