-- ==== Sys2Proof/Config.lean ====
section
/-! DEFINITION. The values no rule fixes: the answers of the transport oracle (R9, R88, U3 of 93_implementation_defined.md).
Each is a constant without a body, so no proof can learn a value of it. Every fixed parameter of rule R8 stands in
Sys2Proof/Machine/Params.lean instead. -/

namespace Sys2Proof

/-- The count the transport answers to the `k`-th `requestBytes`, where State scripts no answer (R74, R88: a draw;
`requestBytes` cuts it to the range [0, n] that R74 gives). Free value, log entry 3. -/
opaque Config.freeCount : Nat → Nat

/-- Byte `i` of the transport's answer to the `k`-th `requestBytes`, where State scripts none (R75, R88: any u8).
Free value, log entry 3. -/
opaque Config.freeByte : Nat → Nat → Byte

/-- What byte `i` of the read latch holds, after `k` requests, where no read has delivered it.
CORE's own sequences never consult it (R252, R256). Free value, log entry 4. -/
opaque Config.freeLatchByte : Nat → Nat → Byte

end Sys2Proof
end

