-- ==== Sys2Proof/Syntax.lean ====
section
/-! DEFINITION. The operations of CORE (R108, one constructor of `Instr` per row of spec/opcode_table.json) and the
labels of its sequencer (R44). -/

namespace Sys2Proof

/-- Which conversion was just started: the operand of SELECT_DELAY (R228). -/
inductive Conversion where
  | temperature
  | pressure
  deriving DecidableEq, Repr

/-- The values of STEP (R44): IDLE, the labels of the three sequences (R252, R256, R259) and the sub-steps of
G.6 (T1 to T4) and of G.11 (P1 to P15). `g6` and `g11` stand for the start of a pass. -/
inductive Label where
  | idle
  | b1 | b2 | b3 | b4 | b5 | b6
  | g0 | g1 | g2 | g3 | g4 | g5 | g6
  | t1 | t2 | t3 | t4
  | g7 | g8 | g9 | g10 | g11
  | p1 | p2 | p3 | p4 | p5 | p6 | p7 | p8 | p9 | p10 | p11 | p12 | p13 | p14 | p15
  | g12
  | l0 | l1 | l2
  deriving DecidableEq, Repr

/-- The operations of CORE, one constructor per row of spec/opcode_table.json (R108). -/
inductive Instr where
  /-- START_T (R101, R226). -/
  | startT
  /-- START_P with its two-bit OSS field (R102, R227). -/
  | startP (oss : BitVec 2)
  /-- READ_ID (R103, R229). -/
  | readId
  /-- READ_CAL (R103, R229). -/
  | readCal
  /-- READ_UT (R103, R229). -/
  | readUt
  /-- READ_UP (R103, R229). -/
  | readUp
  /-- BEGIN (R104, R252). -/
  | beginOp
  /-- GET_PRESSURE with its MODE_IN operand (R104, R106, R256). -/
  | getPressure (mode : Byte)
  /-- GET_LAST_TEMPERATURE (R104, R259). -/
  | getLastTemperature
  /-- The reserved selector 0b11 (R105). -/
  | reservedHost
  /-- CHECK_ID (R221). -/
  | checkId
  /-- UNPACK_CAL (R222). -/
  | unpackCal
  /-- ASM_UT (R223). -/
  | asmUt
  /-- CLAMP (R224). -/
  | clamp
  /-- ASM_UP (R225). -/
  | asmUp
  /-- SELECT_DELAY, after the conversion that is its operand (R228). -/
  | selectDelay (conv : Conversion)
  /-- COMP_T (R160). -/
  | compT
  | t1 | t2 | t3 | t4
  /-- COMP_P (R180). -/
  | compP
  | p1 | p2 | p3 | p4 | p5 | p6 | p7 | p8 | p9 | p10 | p11 | p12 | p13 | p14 | p15
  deriving DecidableEq, Repr

/-- The formats of 30_encoding.md: CMD8 (R100), RD (R103), HOST (R104) and STEP, which is selected by a label and has
no bits (R108). -/
inductive Format where
  | cmd8
  | rd
  | host
  | step (l : Label)
  deriving DecidableEq, Repr

/-- An encoded operation, in the shape its format gives it: OP_SEL with MODE_IN (R104, R106), a command byte (R100),
the read key `(reg << 8) | n` (R103), or the sequencer label that selects a STEP operation (R108). -/
inductive Code where
  | host (opSel : BitVec 2) (modeIn : Byte)
  | cmd8 (cmd : Byte)
  | rd (key : BitVec 16)
  | sel (l : Label)
  deriving DecidableEq, Repr

/-- Why a code or a byte string is no operation of CORE. -/
inductive DecodeError where
  /-- A command byte CORE never writes (R109). -/
  | unknownCommand (cmd : Byte)
  /-- A read CORE never issues (R103, R109). -/
  | unknownRead (key : BitVec 16)
  /-- A label that selects no STEP operation: IDLE, a bus label, or a statement of a sequence's own (R44). -/
  | notSelected (l : Label)
  /-- A selector byte with a bit set outside OP_SEL's two bits (R104). -/
  | badSelector (b : Byte)
  /-- A byte string whose length is not the one its format fixes (R110). -/
  | wrongLength (n : Nat)
  deriving DecidableEq, Repr

end Sys2Proof
end

