-- ==== Sys2Proof/WellFormed.lean ====
section
/-! DEFINITION. Which terms of `Instr` the host may present or the sequencer may select. Field widths are types
(OSS two bits, MODE_IN eight bits), so the one check left is rule R105's: the reserved selector is never presented. -/

namespace Sys2Proof

/-- R105: "The host must never present it": the reserved selector is the one ill-formed operation. -/
def Instr.wf : Instr → Bool
  | .reservedHost => false
  | .startT | .startP _ | .readId | .readCal | .readUt | .readUp => true
  | .beginOp | .getPressure _ | .getLastTemperature => true
  | .checkId | .unpackCal | .asmUt | .clamp | .asmUp | .selectDelay _ => true
  | .compT | .t1 | .t2 | .t3 | .t4 => true
  | .compP | .p1 | .p2 | .p3 | .p4 | .p5 | .p6 | .p7 | .p8 => true
  | .p9 | .p10 | .p11 | .p12 | .p13 | .p14 | .p15 => true

end Sys2Proof
end

