-- ==== Sys2Proof/Decode.lean ====
section
/-! DEFINITION. Decoder and encoder, from 30_encoding.md: R101 and R102 (command bytes), R103 (read keys), R104 and R105
(host selectors), R108 (STEP operations, selected by the sequencer's label). `decode` is total on codes and
`decodeBytes` on byte strings; both reject by name. -/

namespace Sys2Proof

/-- The byte START_T writes (R101). -/
def startTByte : Byte := 0x2E

/-- The byte START_P writes: `0x34 | (oss << 6)` (R102). -/
def startPByte (oss : BitVec 2) : Byte := 0x34 ||| (oss.zeroExtend 8 <<< 6)

/-- The key `(reg << 8) | n` of a register read (R103). -/
def readKey (reg n : Byte) : BitVec 16 := reg ++ n

/-- CMD8: START_T matches 0x2E under mask 0xFF, START_P matches 0x34 under mask 0x3F with OSS in bits 7:6
(R100 to R102). -/
def decodeCommand (cmd : Byte) : Except DecodeError Instr :=
  if cmd &&& 0xFF = 0x2E then .ok .startT
  else if cmd &&& 0x3F = 0x34 then .ok (.startP (cmd.extractLsb' 6 2))
  else .error (.unknownCommand cmd)

/-- RD: exactly four reads, keyed by address and byte count (R103). -/
def decodeRead (key : BitVec 16) : Except DecodeError Instr :=
  if key = 0xD001 then .ok .readId
  else if key = 0xAA16 then .ok .readCal
  else if key = 0xF602 then .ok .readUt
  else if key = 0xF603 then .ok .readUp
  else .error (.unknownRead key)

/-- HOST: OP_SEL selects the operation, MODE_IN is GET_PRESSURE's argument and no other's (R104, R105). -/
def decodeHost (opSel : BitVec 2) (modeIn : Byte) : Instr :=
  if opSel = 0 then .beginOp
  else if opSel = 1 then .getPressure modeIn
  else if opSel = 2 then .getLastTemperature
  else .reservedHost

/-- STEP: the operation a label selects (R44, R108; the labels of R252 and R256). -/
def decodeStep : Label → Except DecodeError Instr
  | .b3 => .ok .checkId
  | .b5 => .ok .unpackCal
  | .g1 => .ok .clamp
  | .g3 => .ok (.selectDelay .temperature)
  | .g5 => .ok .asmUt
  | .g6 => .ok .compT
  | .t1 => .ok .t1
  | .t2 => .ok .t2
  | .t3 => .ok .t3
  | .t4 => .ok .t4
  | .g8 => .ok (.selectDelay .pressure)
  | .g10 => .ok .asmUp
  | .g11 => .ok .compP
  | .p1 => .ok .p1
  | .p2 => .ok .p2
  | .p3 => .ok .p3
  | .p4 => .ok .p4
  | .p5 => .ok .p5
  | .p6 => .ok .p6
  | .p7 => .ok .p7
  | .p8 => .ok .p8
  | .p9 => .ok .p9
  | .p10 => .ok .p10
  | .p11 => .ok .p11
  | .p12 => .ok .p12
  | .p13 => .ok .p13
  | .p14 => .ok .p14
  | .p15 => .ok .p15
  | .idle => .error (.notSelected .idle)
  | .b1 => .error (.notSelected .b1)
  | .b2 => .error (.notSelected .b2)
  | .b4 => .error (.notSelected .b4)
  | .b6 => .error (.notSelected .b6)
  | .g0 => .error (.notSelected .g0)
  | .g2 => .error (.notSelected .g2)
  | .g4 => .error (.notSelected .g4)
  | .g7 => .error (.notSelected .g7)
  | .g9 => .error (.notSelected .g9)
  | .g12 => .error (.notSelected .g12)
  | .l0 => .error (.notSelected .l0)
  | .l1 => .error (.notSelected .l1)
  | .l2 => .error (.notSelected .l2)

/-- The operation a code stands for, or the reason why it is none. -/
def decode : Code → Except DecodeError Instr
  | .host opSel modeIn => .ok (decodeHost opSel modeIn)
  | .cmd8 cmd => decodeCommand cmd
  | .rd key => decodeRead key
  | .sel l => decodeStep l

/-- The code of an operation. BEGIN, GET_LAST_TEMPERATURE and the reserved selector take no argument (R104), so their
MODE_IN is written as zero. -/
def encode : Instr → Code
  | .startT => .cmd8 startTByte
  | .startP oss => .cmd8 (startPByte oss)
  | .readId => .rd (readKey 0xD0 1)
  | .readCal => .rd (readKey 0xAA 22)
  | .readUt => .rd (readKey 0xF6 2)
  | .readUp => .rd (readKey 0xF6 3)
  | .beginOp => .host 0b00 0
  | .getPressure mode => .host 0b01 mode
  | .getLastTemperature => .host 0b10 0
  | .reservedHost => .host 0b11 0
  | .checkId => .sel .b3
  | .unpackCal => .sel .b5
  | .asmUt => .sel .g5
  | .clamp => .sel .g1
  | .asmUp => .sel .g10
  | .selectDelay .temperature => .sel .g3
  | .selectDelay .pressure => .sel .g8
  | .compT => .sel .g6
  | .t1 => .sel .t1
  | .t2 => .sel .t2
  | .t3 => .sel .t3
  | .t4 => .sel .t4
  | .compP => .sel .g11
  | .p1 => .sel .p1
  | .p2 => .sel .p2
  | .p3 => .sel .p3
  | .p4 => .sel .p4
  | .p5 => .sel .p5
  | .p6 => .sel .p6
  | .p7 => .sel .p7
  | .p8 => .sel .p8
  | .p9 => .sel .p9
  | .p10 => .sel .p10
  | .p11 => .sel .p11
  | .p12 => .sel .p12
  | .p13 => .sel .p13
  | .p14 => .sel .p14
  | .p15 => .sel .p15

/-- Decode a byte string of a given format; total on any bytes. A command is one byte, a read key two bytes (low byte,
that is the count, first: log entry 11), a host operation one selector byte and, for GET_PRESSURE alone, one mode byte
(R110). The selector's two bits lie in bits 1:0 of its byte, and a byte with another bit set is rejected: the spec gives
OP_SEL as a 2-bit port and no byte form, so this is the model's choice (log entry 20). A STEP operation has no bytes
(R108). -/
def decodeBytes : Format → List Byte → Except DecodeError Instr
  | .cmd8, [cmd] => decodeCommand cmd
  | .cmd8, bs => .error (.wrongLength bs.length)
  | .rd, [n, reg] => decodeRead (readKey reg n)
  | .rd, bs => .error (.wrongLength bs.length)
  | .host, [] => .error (.wrongLength 0)
  | .host, sel :: rest =>
    if sel &&& 0xFC ≠ 0 then .error (.badSelector sel)
    else if sel = 1 then
      match rest with
      | [mode] => .ok (.getPressure mode)
      | bs => .error (.wrongLength (bs.length + 1))
    else if rest = [] then .ok (decodeHost (sel.extractLsb' 0 2) 0)
    else .error (.wrongLength (rest.length + 1))
  | .step l, [] => decodeStep l
  | .step _, bs => .error (.wrongLength bs.length)

/-- The bytes of a code, with its format. -/
def Code.bytes : Code → Format × List Byte
  | .host opSel modeIn =>
    (.host, if opSel = 1 then [opSel.zeroExtend 8, modeIn] else [opSel.zeroExtend 8])
  | .cmd8 cmd => (.cmd8, [cmd])
  | .rd key => (.rd, [key.extractLsb' 0 8, key.extractLsb' 8 8])
  | .sel l => (.step l, [])

/-- The format and the bytes of an operation. -/
def encodeBytes (i : Instr) : Format × List Byte := (encode i).bytes

/-- Turn a decoding into an option, dropping the reason of a rejection. -/
def accepted : Except DecodeError Instr → Option Instr
  | .ok i => some i
  | .error _ => none

/-- A one-byte word of the opcode table: a HOST selector (values 0 to 3), with GET_PRESSURE's mode byte zero, or a
CMD8 byte; no command byte of CORE is below 4 (log entry 20). -/
def decodeTableByte (b : Byte) : Option Instr :=
  if b = 1 then accepted (decodeBytes .host [b, 0])
  else if b.toNat < 4 then accepted (decodeBytes .host [b])
  else accepted (decodeBytes .cmd8 [b])

/-- What the decoder reads from a word numbered as spec/opcode_table.json numbers it: eight bits are a HOST selector or
a CMD8 byte, more are an RD key. The reader's spurious field "n" of READ_CAL (bit 22, taken from the byte count 22) is
no bit of the instruction and is passed over (log entry 12). A row of format STEP has no word. -/
def decodeTableWord (nbits w : Nat) : Option Instr :=
  if nbits = 8 then
    if w < 256 then decodeTableByte (BitVec.ofNat 8 w) else none
  else if nbits = 16 ∨ nbits = 24 then
    if w / 65536 = 0 ∨ (w % 65536 = 0xAA16 ∧ w / 65536 = 64) then
      accepted (decodeBytes .rd [BitVec.ofNat 8 w, BitVec.ofNat 8 (w / 256)])
    else none
  else none

end Sys2Proof
end

