-- ==== Sys2Proof/Machine/State.lean ====
section
/-! DEFINITION. The state of CORE (R30) and of the two agents behind its bus that CORE can tell apart from it: the
transport's receive queue (R46) and the oracle's answers (R88); the reasons to stop; and the state after reset (R341).

A register the spec calls "no value" after reset is an `Option`: R341 gives "no value" as the reset value, and R40
says that "a model that reads one must fault, not return zero" (log entry 1). -/

namespace Sys2Proof.Machine

/-- SESSION (R31): 0 is UNINIT, 1 is READY. -/
inductive Session where
  | uninit
  | ready
  deriving DecidableEq, Repr

/-- The status codes of R300. Codes 6 and 7 are never produced and have no constructor (U18). -/
inductive Status where
  | ok
  | idMismatch
  | notReady
  | div0Temp
  | div0Pres
  | bus
  deriving DecidableEq, Repr

/-- An error with the info R300 lets a model record beside the code. -/
inductive Err where
  /-- E_ID_MISMATCH(id), R301. -/
  | idMismatch (id : Byte)
  /-- E_NOT_READY, R302. -/
  | notReady
  /-- E_DIV0_TEMP(X1, MD), R303. -/
  | div0Temp (x1 md : W32)
  /-- E_DIV0_PRES(B4), R304. -/
  | div0Pres (b4 : W32)
  /-- E_BUS(reg, n, avail), R305. -/
  | bus (reg : Byte) (n avail : Nat)
  deriving DecidableEq, Repr

/-- The bus trace entries of R111, and `sel` for `selectRegister` (R72), which no sequence of CORE calls. -/
inductive Event where
  | wr (reg value : Byte)
  | rq (reg : Byte) (n avail : Nat)
  | rd (b : Byte)
  | wait (n : Nat)
  | sel (reg : Byte)
  deriving DecidableEq, Repr

/-- What the host presents to start an operation: OP_SEL and MODE_IN (R45). -/
structure HostReq where
  opSel : BitVec 2
  modeIn : Byte
  deriving DecidableEq, Repr

/-- One scripted answer of the transport to one `requestBytes` (R74, R88): the count and the bytes in the order
received. -/
structure Reply where
  avail : Nat
  bytes : List Byte
  deriving DecidableEq, Repr

/-- What one call of the wait capability does: it returns, or it never does (U14). -/
inductive WaitAnswer where
  | returns
  | hangs
  deriving DecidableEq, Repr

/-- The wait capability WAIT, a parameter of the model (R9, R322), as plain data: the arguments it never returns for.
`callWait` (Machine/Ops.lean) calls it. -/
structure WaitCap where
  hangsAt : List Nat
  deriving DecidableEq, Repr

/-- How a step takes an operation that the host presents (log entry 7): one statement of its listing a step (R44, R83),
or the whole listing in one step. -/
inductive Grain where
  | statement
  | operation
  deriving DecidableEq, Repr

/-- The calibration file CAL (R32): eleven 16-bit registers, `none` while unwritten. -/
structure Cal where
  ac1 : Option Half
  ac2 : Option Half
  ac3 : Option Half
  ac4 : Option Half
  ac5 : Option Half
  ac6 : Option Half
  b1 : Option Half
  b2 : Option Half
  mb : Option Half
  mc : Option Half
  md : Option Half
  deriving DecidableEq, Repr

/-- The registers that hold no value after reset (R341), by the spec's names. -/
inductive RegName where
  | ac1 | ac2 | ac3 | ac4 | ac5 | ac6 | calB1 | calB2 | mb | mc | md
  | ut | up | oss | b5
  | x1 | x2 | x3 | t | b3 | b4 | b6 | b7 | p | pres
  | lastT | status | value
  deriving DecidableEq, Repr

/-- A machine state: CORE's own state (R30), then the other agents' and the model's own. -/
structure State where
  /-- SESSION (R31). -/
  session : Session
  /-- CAL (R32). -/
  cal : Cal
  /-- UT, u16 (R35). -/
  ut : Option Half
  /-- UP, 19 bits, unsigned (R36). -/
  up : Option (BitVec 19)
  /-- OSS (R38). -/
  oss : Option (BitVec 2)
  /-- B5, s32 (R37). -/
  b5 : Option W32
  /-- X1, s32 (R39). -/
  x1 : Option W32
  /-- X2, s32 (R39). -/
  x2 : Option W32
  /-- X3, s32 (R39). -/
  x3 : Option W32
  /-- T, s32 (R39). -/
  t : Option W32
  /-- B3, s32 (R39). -/
  b3 : Option W32
  /-- B4, u32 (R39). -/
  b4 : Option W32
  /-- B6, s32 (R39). -/
  b6 : Option W32
  /-- B7, u32 (R39). -/
  b7 : Option W32
  /-- p, s32 (R39). -/
  p : Option W32
  /-- PRES, s32 (R39). -/
  pres : Option W32
  /-- LAST_T, s32 (R41). -/
  lastT : Option W32
  /-- LAST_T_VALID (R42). -/
  lastTValid : Bool
  /-- STEP (R44). -/
  step : Label
  /-- Port OP_SEL (R45). -/
  opSel : BitVec 2
  /-- Port MODE_IN (R45). -/
  modeIn : Byte
  /-- Port STATUS (R45, R300). -/
  status : Option Status
  /-- Port VALUE, s32 (R45, R14). -/
  value : Option W32
  /-- The error info a model may record beside the code (R300, column "info recorded"). -/
  info : Option Err
  /-- RXQ, the transport's receive queue (R46). -/
  rxq : List Byte
  /-- The bytes of the last completed BusRead, the local `b`, `c`, `u`, `v` of R252 and R256 (log entry 4). -/
  latch : List Byte
  /-- Host operations waiting to be presented, in order (R111; log entry 5). -/
  hostQ : List HostReq
  /-- Scripted answers of the oracle, in order (R88; log entry 3). -/
  replies : List Reply
  /-- How many requests the oracle has answered: the counter its free values are applied to (log entry 3). -/
  draws : Nat
  /-- The wait capability (R322; log entry 6). -/
  waitCap : WaitCap
  /-- How a step takes a presented operation; the model's own (log entry 7). -/
  grain : Grain
  /-- The bus trace, oldest entry first (R111). -/
  trace : List Event
  deriving DecidableEq, Repr

/-- Why the machine stops. -/
inductive Fault where
  /-- A register that no operation has written is read (R40, R341, U5: fault). Raised by the operand reads of the
  STEP operations, by the read of OSS at G.7 and by the host's reads of STATUS and VALUE; no step of a run from reset
  reaches it. Safe: R40 and R341 demand it ("A model that reads one must fault, not return zero"). -/
  | unwritten (r : RegName)
  /-- The wait capability, called with the delay, never returns, so the operation makes no further progress (U14: stuck). Raised by
  SELECT_DELAY. Safe: no claim about what follows can be proved. -/
  | waitHangs
  deriving DecidableEq, Repr

/-- Why the machine refuses to go on. -/
inductive Refusal where
  /-- An operation without a meaning in this model. No arm answers it in this package. Safe. -/
  | notModelled (mnemonic : String)
  /-- OP_SEL = 0b11 (R105: "A model must refuse it"). Raised by RESERVED_HOST. Safe. -/
  | reservedSelector
  /-- A code that is no operation of CORE (R109). Raised by `step` on a fetched code its decoder rejects; no fetch
  yields one. Safe. -/
  | undecodable (e : DecodeError)
  deriving DecidableEq, Repr

/-- The outcome of one step of this machine. -/
abbrev Out := Host.Outcome State Fault Refusal

/-- CAL with no entry written (R341). -/
def Cal.unwritten : Cal :=
  { ac1 := none, ac2 := none, ac3 := none, ac4 := none, ac5 := none, ac6 := none,
    b1 := none, b2 := none, mb := none, mc := none, md := none }

/-- The state after reset (R340 to R342). OP_SEL, MODE_IN and the fields that are not CORE's are the model's choice
(log entries 2 to 8). -/
def State.reset : State :=
  { session := .uninit, cal := Cal.unwritten, ut := none, up := none, oss := none, b5 := none,
    x1 := none, x2 := none, x3 := none, t := none, b3 := none, b4 := none, b6 := none, b7 := none,
    p := none, pres := none, lastT := none, lastTValid := false, step := .idle, opSel := 0, modeIn := 0,
    status := none, value := none, info := none, rxq := [], latch := [], hostQ := [], replies := [], draws := 0,
    waitCap := { hangsAt := [] }, grain := .statement, trace := [] }

end Sys2Proof.Machine
end

