-- ==== Sys2Proof/Machine/Arith.lean ====
section
/-! DEFINITION. The integer primitives of 40_arith.md (R131 to R140). A value is its 32-bit pattern; whether a register
is read as s32 or u32 is fixed by R39. `add32`, `sub32` and `mul32` give the same pattern for either reading (R133). -/

namespace Sys2Proof.Machine

/-- `add32`, wrapping mod 2^32 (R131). -/
def add32 (a b : W32) : W32 := a + b

/-- `sub32`, wrapping mod 2^32 (R132). -/
def sub32 (a b : W32) : W32 := a - b

/-- `mul32`, the low 32 bits of the exact product (R133). -/
def mul32 (a b : W32) : W32 := a * b

/-- `asr`, the arithmetic right shift of an s32: floor division by 2^n (R134). -/
def asr (v : W32) (n : Nat) : W32 := v.sshiftRight n

/-- `lsr`, the logical right shift of a u32 (R135). -/
def lsr (v : W32) (n : Nat) : W32 := v >>> n

/-- `lsl`, the left shift, wrapping (R136). -/
def lsl (v : W32) (n : Nat) : W32 := v <<< n

/-- `sdiv`, signed division truncating toward zero, with `sdiv(−2^31, −1) = −2^31` (R138). No step evaluates it at a
zero divisor (R142). -/
def sdiv (a b : W32) : W32 := BitVec.sdiv a b

/-- `udiv`, unsigned division (R139). No step evaluates it at a zero divisor (R142). -/
def udiv (a b : W32) : W32 := BitVec.udiv a b

/-- `to_u32`: the same pattern, read as unsigned (R140). -/
def toU32 (v : W32) : W32 := v

/-- `to_s32`: the same pattern, read as signed (R140). -/
def toS32 (v : W32) : W32 := v

end Sys2Proof.Machine
end

