-- ==== Sys2Proof/Machine/Flags.lean ====
section
/-! DEFINITION. CORE has no condition codes (R43): its only tests are the unsigned compare of P11 (R141), the two zero
tests of the divisors (R142) and the identity compare (R221); none of them stores its result. -/

namespace Sys2Proof.Machine

/-- `ult`, the unsigned compare of P11; it sets no flag (R141). -/
def ult (a b : W32) : Bool := decide (a.toNat < b.toNat)

/-- The zero test of a divisor, made before the division (R142). -/
def isZero (v : W32) : Bool := v == 0

/-- The whole-byte compare of CHECK_ID (R221). -/
def idMatches (id expected : Byte) : Bool := id == expected

end Sys2Proof.Machine
end

