-- ==== Sys2Proof/Machine/Params.lean ====
section
/-! DEFINITION. The fixed parameters of CORE (R8), the sensor's register map as far as CORE uses it (R71), the pipeline's
constants (R107) and the status numbers (R300). -/

namespace Sys2Proof.Machine

/-- DEV_ADDR, the sensor's 7-bit bus address (R8, R70, R323). Every transport operation is addressed to it. -/
def devAddr : BitVec 7 := 0x77

/-- The identity register (R71). -/
def regId : Byte := 0xD0
/-- The start of the calibration payload (R71). -/
def regCal : Byte := 0xAA
/-- The command register CTRL (R71). -/
def regCtrl : Byte := 0xF4
/-- The data register DATA (R71). -/
def regData : Byte := 0xF6

/-- The identity CHECK_ID expects (R71, R221). -/
def expectedId : Byte := 0x55

/-- CAL_BYTES, the length of the calibration payload (R8). -/
def calBytes : Nat := 22

/-- T_DELAY in time units (R8, R228). -/
def tDelay : Nat := 5

/-- P_DELAY[oss] in time units (R8, R228). -/
def pDelay (oss : BitVec 2) : Nat :=
  if oss = 0 then 5 else if oss = 1 then 8 else if oss = 2 then 14 else 26

/-- T_SENTINEL, the answer of GET_LAST_TEMPERATURE before any reading (R8, R259): −32768. -/
def tSentinel : W32 := -32768

/-- The number of a status code on the STATUS port (R300). -/
def Status.code : Status → BitVec 3
  | .ok => 0
  | .idMismatch => 1
  | .notReady => 2
  | .div0Temp => 3
  | .div0Pres => 4
  | .bus => 5

/-- The status an error is reported with (R300). -/
def Err.status : Err → Status
  | .idMismatch _ => .idMismatch
  | .notReady => .notReady
  | .div0Temp _ _ => .div0Temp
  | .div0Pres _ => .div0Pres
  | .bus _ _ _ => .bus

/-- The bit SESSION holds (R31). -/
def Session.bit : Session → BitVec 1
  | .uninit => 0
  | .ready => 1

end Sys2Proof.Machine
end

