-- ==== Sys2Proof/Machine/Ops.lean ====
section
/-! DEFINITION. The operations every meaning is built from: the sequencer's advance (R44), error entry and the two ways an
operation ends (R307, R308), the transport operations (R72 to R76), the wait (R322), register reads (R40) and running a
listing of statements in order (R83, R251). -/

namespace Sys2Proof.Machine

/-- The label after a label in its listing (R44): the passes at G.6 and G.11 are entered at their first sub-step and left
for G.7 and G.12; a sequence's last label and IDLE give IDLE. -/
def nextLabel : Label → Label
  | .idle => .idle
  | .b1 => .b2
  | .b2 => .b3
  | .b3 => .b4
  | .b4 => .b5
  | .b5 => .b6
  | .b6 => .idle
  | .g0 => .g1
  | .g1 => .g2
  | .g2 => .g3
  | .g3 => .g4
  | .g4 => .g5
  | .g5 => .g6
  | .g6 => .t1
  | .t1 => .t2
  | .t2 => .t3
  | .t3 => .t4
  | .t4 => .g7
  | .g7 => .g8
  | .g8 => .g9
  | .g9 => .g10
  | .g10 => .g11
  | .g11 => .p1
  | .p1 => .p2
  | .p2 => .p3
  | .p3 => .p4
  | .p4 => .p5
  | .p5 => .p6
  | .p6 => .p7
  | .p7 => .p8
  | .p8 => .p9
  | .p9 => .p10
  | .p10 => .p11
  | .p11 => .p12
  | .p12 => .p13
  | .p13 => .p14
  | .p14 => .p15
  | .p15 => .g12
  | .g12 => .idle
  | .l0 => .l1
  | .l1 => .l2
  | .l2 => .idle

/-- "Each statement, once done, sets STEP to the next label in the listing" (R44). -/
def advance (s : State) : State := { s with step := nextLabel s.step }

/-- Put STEP at a label: the first label of a sequence or of a pass (R44). -/
def enter (l : Label) (s : State) : State := { s with step := l }

/-- The host's presentation of an operation on the ports, which puts STEP at the operation's first label (R44, R45). -/
def present (opSel : BitVec 2) (modeIn : Byte) (first : Label) (s : State) : State :=
  { s with opSel := opSel, modeIn := modeIn, step := first }

/-- Error entry, `raise E(info)` (R307): STATUS takes the code, VALUE holds no value, STEP goes to IDLE, nothing else
changes; the info is recorded beside the code (R300). -/
def raise (e : Err) (s : State) : State :=
  { s with status := some e.status, value := none, info := some e, step := .idle }

/-- The end of an operation without an error, `return (E_OK, value)` (R13, R14, R45, R308). -/
def finish (v : Option W32) (s : State) : State :=
  { s with status := some .ok, value := v, info := none, step := .idle }

/-- Add an entry to the bus trace (R111). -/
def record (e : Event) (s : State) : State := { s with trace := s.trace ++ [e] }

/-- `selectRegister(address)` (R72). No sequence of CORE calls it. -/
def selectRegister (reg : Byte) (s : State) : State := record (.sel reg) s

/-- `writeRegister(address, value)` (R73): one data byte; no failure is reported. -/
def busWrite (reg value : Byte) (s : State) : State := record (.wr reg value) s

/-- The `n` bytes of the oracle's answer number `k`: the scripted ones first, free values after them (R88). -/
def answerBytes (k n : Nat) (scripted : List Byte) : List Byte :=
  (List.range n).map fun i => scripted.getD i (Config.freeByte k i)

/-- The count the oracle answers to a request of `n` bytes: a value in [0, n] (R74, R88). -/
def answerCount (s : State) (n : Nat) : Nat :=
  match s.replies with
  | r :: _ => min r.avail n
  | [] => min (Config.freeCount s.draws) n

/-- The scripted bytes of the oracle's next answer. -/
def answerScript (s : State) : List Byte :=
  match s.replies with
  | r :: _ => r.bytes
  | [] => []

/-- `requestBytes(reg, n)` (R74): the receive queue is replaced by as many bytes as the transport answers. The count
returned is the new queue's length. -/
def busRequest (reg : Byte) (n : Nat) (s : State) : State :=
  record (.rq reg n (answerCount s n))
    { s with rxq := answerBytes s.draws (answerCount s n) (answerScript s),
             replies := s.replies.tail,
             draws := s.draws + 1 }

/-- The byte the next `readByte` gives: the head of the receive queue (R75). CORE never calls it on an empty queue
(R46); there it is a free value. -/
def nextByte (s : State) : Byte :=
  match s.rxq with
  | b :: _ => b
  | [] => Config.freeByte s.draws s.trace.length

/-- `readByte()` (R75): consume the head of the receive queue and record it. -/
def busReadByte (s : State) : State := record (.rd (nextByte s)) { s with rxq := s.rxq.tail }

/-- `n` calls of `readByte`, the bytes gathered in the order received behind those gathered before (R76). -/
def readBytes : Nat → List Byte → State → State
  | 0, got, s => { s with latch := got }
  | n + 1, got, s => readBytes n (got ++ [nextByte s]) (busReadByte s)

/-- `BusRead(reg, n)` as one statement (R76, R229): a short count raises E_BUS before any `readByte`; else the `n` bytes
are latched and the sequencer advances. -/
def busRead (reg : Byte) (n : Nat) (s : State) : State :=
  if answerCount s n < n then raise (.bus reg n (answerCount s n)) (busRequest reg n s)
  else advance (readBytes n [] (busRequest reg n s))

/-- Byte `i` of the last completed BusRead; a byte no read has delivered is a free value (log entry 4). -/
def latched (s : State) (i : Nat) : Byte := s.latch.getD i (Config.freeLatchByte s.draws i)

/-- The call of the wait capability with `n` (R322). -/
def callWait (w : WaitCap) (n : Nat) : WaitAnswer := if n ∈ w.hangsAt then .hangs else .returns

/-- `Wait(n)` as one statement (R322): the capability is called with `n`; when it returns, the wait is recorded and the
operation resumes at the next label; a call that never returns leaves the operation stuck (U14). -/
def wait (n : Nat) (s : State) : Out :=
  match callWait s.waitCap n with
  | .returns => .next (advance (record (.wait n) s))
  | .hangs => .fault .waitHangs

/-- Read a register: its value if some operation has written it, else the fault R40 demands. A meaning reads its operands
in the order of its rule's pseudocode, and none that the pseudocode does not reach (log entry 19). -/
def need {α : Type} (r : RegName) (o : Option α) (k : α → Out) : Out :=
  match o with
  | some v => k v
  | none => .fault (.unwritten r)

/-- The host's read of STATUS (R45, R341): a fault while the port holds no value. -/
def readStatus (s : State) : Except Fault Status :=
  match s.status with
  | some st => .ok st
  | none => .error (.unwritten .status)

/-- The host's read of VALUE (R45, R307 (1)): a fault while the port holds no value. -/
def readValue (s : State) : Except Fault W32 :=
  match s.value with
  | some v => .ok v
  | none => .error (.unwritten .value)

/-- The statements of a listing, one at a time in order (R83); a statement that ends the operation, by a `raise` or a
`return`, leaves STEP at IDLE and no further statement runs (R251, R307). -/
def runSeq : List (State → Out) → State → Out
  | [], s => .next s
  | f :: fs, s =>
    match f s with
    | .next s' => if s'.step = .idle then .next s' else runSeq fs s'
    | .fault r => .fault r
    | .refused r => .refused r

/-- `runSeq` for statements that always answer a next state. -/
def runTotal : List (State → State) → State → State
  | [], s => s
  | f :: fs, s => if (f s).step = .idle then f s else runTotal fs (f s)

end Sys2Proof.Machine
end

