-- ==== Sys2Proof/Machine/Operands.lean ====
section
/-! DEFINITION. How an operand becomes a 32-bit value (R130) and how bytes become a 16-bit or 24-bit value (R11, R77,
R78): always by explicit concatenation, the first byte received most significant. -/

namespace Sys2Proof.Machine

/-- `{a, b}`: the first byte is the high one (R11, R77). -/
def cat2 (a b : Byte) : Half := a ++ b

/-- `{a, b, c}` as a u32 (R11, R77). -/
def cat3 (a b c : Byte) : W32 := (a ++ b ++ c).zeroExtend 32

/-- `sext_16`: a signed calibration entry (R11, R130). -/
def sext16 (h : Half) : W32 := h.signExtend 32

/-- `zext_16`: an unsigned calibration entry, or UT (R11, R130). -/
def zext16 (h : Half) : W32 := h.zeroExtend 32

/-- UP as the u32 with its value (R36, R130). -/
def zextUp (u : BitVec 19) : W32 := u.zeroExtend 32

end Sys2Proof.Machine
end

