-- ==== Sys2Proof/Machine/Commands.lean ====
section
/-! DEFINITION. The conversion commands START_T and START_P (R226, R227). -/

namespace Sys2Proof.Machine

/-- START_T: `BusWrite(0xF4, 0x2E)` (R226). -/
def execStartT (s : State) : Out := .next (advance (busWrite regCtrl startTByte s))

/-- START_P: `BusWrite(0xF4, 0x34 | (OSS << 6))` (R227). -/
def execStartP (oss : BitVec 2) (s : State) : Out := .next (advance (busWrite regCtrl (startPByte oss) s))

end Sys2Proof.Machine
end

