-- ==== Sys2Proof/Machine/Conditioning.lean ====
section
/-! DEFINITION. The conditioning operations (R221 to R225, R228). Their byte operands are the bytes of the last completed
BusRead. -/

namespace Sys2Proof.Machine

/-- The effect of CHECK_ID (R221). -/
def checkId (s : State) : State :=
  if idMatches (latched s 0) expectedId then advance s else raise (.idMismatch (latched s 0)) s

/-- CHECK_ID: any identity byte but 0x55 raises E_ID_MISMATCH (R221). -/
def execCheckId (s : State) : Out := .next (checkId s)

/-- Entry `k` of the calibration payload: `{c[2k], c[2k+1]}` (R222). -/
def calField (s : State) (k : Nat) : Half := cat2 (latched s (2 * k)) (latched s (2 * k + 1))

/-- The effect of UNPACK_CAL (R222): the eleven entries in the order AC1 to MD. The 16-bit pattern is stored; the
signedness of R32 is applied where an entry is read. -/
def unpackCal (s : State) : State :=
  advance { s with cal :=
    { ac1 := some (calField s 0), ac2 := some (calField s 1), ac3 := some (calField s 2),
      ac4 := some (calField s 3), ac5 := some (calField s 4), ac6 := some (calField s 5),
      b1 := some (calField s 6), b2 := some (calField s 7), mb := some (calField s 8),
      mc := some (calField s 9), md := some (calField s 10) } }

/-- UNPACK_CAL (R222). -/
def execUnpackCal (s : State) : Out := .next (unpackCal s)

/-- ASM_UT: `UT <- {u[0], u[1]}` (R223). -/
def execAsmUt (s : State) : Out := .next (advance { s with ut := some (cat2 (latched s 0) (latched s 1)) })

/-- The clamped mode: `(MODE_IN > 3) ? 3 : MODE_IN` (R224). -/
def clampMode (mode : Byte) : BitVec 2 := if mode.toNat > 3 then 3 else mode.setWidth 2

/-- CLAMP: `OSS <- min(MODE_IN, 3)` (R224). -/
def execClamp (s : State) : Out := .next (advance { s with oss := some (clampMode s.modeIn) })

/-- ASM_UP: `UP <- lsr({v[0], v[1], v[2]}, 8 − OSS)` (R225); the shift leaves at most 19 significant bits. -/
def execAsmUp (s : State) : Out :=
  need .oss s.oss fun oss =>
    .next (advance { s with
      up := some ((lsr (cat3 (latched s 0) (latched s 1) (latched s 2)) (8 - oss.toNat)).setWidth 19) })

/-- SELECT_DELAY and its wait (R228): 5 after START_T, P_DELAY[OSS] after START_P. -/
def execSelectDelay (conv : Conversion) (s : State) : Out :=
  match conv with
  | .temperature => wait tDelay s
  | .pressure => need .oss s.oss fun oss => wait (pDelay oss) s

end Sys2Proof.Machine
end

