-- ==== Sys2Proof/Machine/Pressure.lean ====
section
/-! DEFINITION. The pressure pass (R180 to R195). -/

namespace Sys2Proof.Machine

/-- P1: `B6 <- sub32(B5, 4000)` (R181). -/
def execP1 (s : State) : Out :=
  need .b5 s.b5 fun b5 => .next (advance { s with b6 := some (sub32 b5 4000) })

/-- P2: `X1 <- asr(mul32(B2, asr(mul32(B6, B6), 12)), 11)` (R182). -/
def execP2 (s : State) : Out :=
  need .b6 s.b6 fun b6 => need .calB2 s.cal.b2 fun b2 =>
    .next (advance { s with x1 := some (asr (mul32 (sext16 b2) (asr (mul32 b6 b6) 12)) 11) })

/-- P3: `X2 <- asr(mul32(AC2, B6), 11)` (R183). -/
def execP3 (s : State) : Out :=
  need .ac2 s.cal.ac2 fun ac2 => need .b6 s.b6 fun b6 =>
    .next (advance { s with x2 := some (asr (mul32 (sext16 ac2) b6) 11) })

/-- P4: `X3 <- add32(X1, X2)` (R184). -/
def execP4 (s : State) : Out :=
  need .x1 s.x1 fun x1 => need .x2 s.x2 fun x2 => .next (advance { s with x3 := some (add32 x1 x2) })

/-- P5: `B3 <- sdiv(add32(lsl(add32(mul32(AC1, 4), X3), OSS), 2), 4)` (R185). -/
def execP5 (s : State) : Out :=
  need .ac1 s.cal.ac1 fun ac1 => need .x3 s.x3 fun x3 => need .oss s.oss fun oss =>
    .next (advance { s with
      b3 := some (sdiv (add32 (lsl (add32 (mul32 (sext16 ac1) 4) x3) oss.toNat) 2) 4) })

/-- P6: `X1 <- asr(mul32(AC3, B6), 13)` (R186). -/
def execP6 (s : State) : Out :=
  need .ac3 s.cal.ac3 fun ac3 => need .b6 s.b6 fun b6 =>
    .next (advance { s with x1 := some (asr (mul32 (sext16 ac3) b6) 13) })

/-- P7: `X2 <- asr(mul32(B1, asr(mul32(B6, B6), 12)), 16)` (R187). -/
def execP7 (s : State) : Out :=
  need .calB1 s.cal.b1 fun b1 => need .b6 s.b6 fun b6 =>
    .next (advance { s with x2 := some (asr (mul32 (sext16 b1) (asr (mul32 b6 b6) 12)) 16) })

/-- P8: `X3 <- asr(add32(add32(X1, X2), 2), 2)` (R188). -/
def execP8 (s : State) : Out :=
  need .x1 s.x1 fun x1 => need .x2 s.x2 fun x2 =>
    .next (advance { s with x3 := some (asr (add32 (add32 x1 x2) 2) 2) })

/-- P9: `B4 <- lsr(mul32(zext(AC4), to_u32(add32(X3, 32768))), 15)` (R189). -/
def execP9 (s : State) : Out :=
  need .ac4 s.cal.ac4 fun ac4 => need .x3 s.x3 fun x3 =>
    .next (advance { s with b4 := some (lsr (mul32 (zext16 ac4) (toU32 (add32 x3 32768))) 15) })

/-- P10: `B7 <- mul32(sub32(UP, to_u32(B3)), lsr(50000, OSS))` (R190). -/
def execP10 (s : State) : Out :=
  need .up s.up fun up => need .b3 s.b3 fun b3 => need .oss s.oss fun oss =>
    .next (advance { s with b7 := some (mul32 (sub32 (zextUp up) (toU32 b3)) (lsr 50000 oss.toNat)) })

/-- The quotient of P11 for a non-zero B4, on the two sides of the branch at B7 = 0x80000000 (R191). -/
def p11Quotient (b7 b4 : W32) : W32 :=
  if ult b7 0x80000000 then udiv (mul32 b7 2) b4 else mul32 (udiv b7 b4) 2

/-- P11: `p <- to_s32(q)`, with E_DIV0_PRES raised before either division when B4 = 0 (R191). B7 is read after the test,
where the pseudocode reads it (log entry 19). -/
def execP11 (s : State) : Out :=
  need .b4 s.b4 fun b4 =>
    if isZero b4 then .next (raise (.div0Pres b4) s)
    else need .b7 s.b7 fun b7 => .next (advance { s with p := some (toS32 (p11Quotient b7 b4)) })

/-- P12: `X1 <- mul32(asr(p, 8), asr(p, 8))` (R192). -/
def execP12 (s : State) : Out :=
  need .p s.p fun p => .next (advance { s with x1 := some (mul32 (asr p 8) (asr p 8)) })

/-- P13: `X1 <- asr(mul32(X1, 3038), 16)` (R193). -/
def execP13 (s : State) : Out :=
  need .x1 s.x1 fun x1 => .next (advance { s with x1 := some (asr (mul32 x1 3038) 16) })

/-- P14: `X2 <- asr(mul32(−7357, p), 16)` (R194). -/
def execP14 (s : State) : Out :=
  need .p s.p fun p => .next (advance { s with x2 := some (asr (mul32 (-7357) p) 16) })

/-- P15: `PRES <- add32(p, asr(add32(add32(X1, X2), 3791), 4))` (R195). -/
def execP15 (s : State) : Out :=
  need .p s.p fun p => need .x1 s.x1 fun x1 => need .x2 s.x2 fun x2 =>
    .next (advance { s with pres := some (add32 p (asr (add32 (add32 x1 x2) 3791) 4)) })

/-- COMP_P: `P1; …; P15`, as the sub-steps of G.11 (R180, R44). -/
def execCompP (s : State) : Out :=
  runSeq [execP1, execP2, execP3, execP4, execP5, execP6, execP7, execP8, execP9, execP10, execP11, execP12,
    execP13, execP14, execP15] (enter .p1 s)

end Sys2Proof.Machine
end

