-- ==== Sys2Proof/Machine/Reads.lean ====
section
/-! DEFINITION. The four register reads of CORE (R103, R229). -/

namespace Sys2Proof.Machine

/-- READ_ID: `BusRead(0xD0, 1)` (R229). -/
def execReadId (s : State) : Out := .next (busRead regId 1 s)

/-- READ_CAL: `BusRead(0xAA, 22)` (R229). -/
def execReadCal (s : State) : Out := .next (busRead regCal calBytes s)

/-- READ_UT: `BusRead(0xF6, 2)` (R229). -/
def execReadUt (s : State) : Out := .next (busRead regData 2 s)

/-- READ_UP: `BusRead(0xF6, 3)` (R229). -/
def execReadUp (s : State) : Out := .next (busRead regData 3 s)

end Sys2Proof.Machine
end

