-- ==== Sys2Proof/Machine/Temperature.lean ====
section
/-! DEFINITION. The temperature pass (R160 to R164). -/

namespace Sys2Proof.Machine

/-- T1: `X1 <- asr(mul32(sub32(UT, AC6), AC5), 15)` (R161). -/
def execT1 (s : State) : Out :=
  need .ut s.ut fun ut => need .ac6 s.cal.ac6 fun ac6 => need .ac5 s.cal.ac5 fun ac5 =>
    .next (advance { s with x1 := some (asr (mul32 (sub32 (zext16 ut) (zext16 ac6)) (zext16 ac5)) 15) })

/-- T2: `X2 <- sdiv(mul32(MC, 2048), d)` with `d = add32(X1, MD)`, tested for zero first (R162). MC is read after the
test, where the pseudocode reads it (log entry 19). -/
def execT2 (s : State) : Out :=
  need .x1 s.x1 fun x1 => need .md s.cal.md fun md =>
    if isZero (add32 x1 (sext16 md)) then .next (raise (.div0Temp x1 (sext16 md)) s)
    else need .mc s.cal.mc fun mc =>
      .next (advance { s with x2 := some (sdiv (mul32 (sext16 mc) 2048) (add32 x1 (sext16 md))) })

/-- T3: `B5 <- add32(X1, X2)` (R163). -/
def execT3 (s : State) : Out :=
  need .x1 s.x1 fun x1 => need .x2 s.x2 fun x2 => .next (advance { s with b5 := some (add32 x1 x2) })

/-- T4: `T <- asr(add32(B5, 8), 4)` (R164). -/
def execT4 (s : State) : Out :=
  need .b5 s.b5 fun b5 => .next (advance { s with t := some (asr (add32 b5 8) 4) })

/-- COMP_T: `T1; T2; T3; T4`, as the sub-steps of G.6 (R160, R44). -/
def execCompT (s : State) : Out := runSeq [execT1, execT2, execT3, execT4] (enter .t1 s)

end Sys2Proof.Machine
end

