-- ==== Sys2Proof/Machine/Session.lean ====
section
/-! DEFINITION. The host operations (R250 to R259): the statements of their listings that are no operation of the opcode
table (B.1, B.6, G.0, G.12, L.0 to L.2), and the three sequences. -/

namespace Sys2Proof.Machine

/-- B.1: `SESSION <- UNINIT` (R252). -/
def stmtB1 (s : State) : State := advance { s with session := .uninit }

/-- B.6: `SESSION <- READY; LAST_T_VALID <- 0; return (E_OK, none)` (R252, R254). -/
def stmtB6 (s : State) : State := finish none { s with session := .ready, lastTValid := false }

/-- `if SESSION != READY then raise E_NOT_READY` (G.0 of R256, L.0 of R259). -/
def requireReady (s : State) : State :=
  match s.session with
  | .ready => advance s
  | .uninit => raise .notReady s

/-- G.12, the commit: `LAST_T <- T; LAST_T_VALID <- 1; return (E_OK, PRES)` (R256, R257). -/
def stmtG12 (s : State) : Out :=
  need .t s.t fun t => need .pres s.pres fun pres =>
    .next (finish (some pres) { s with lastT := some t, lastTValid := true })

/-- L.1: `if LAST_T_VALID == 0 then return (E_OK, T_SENTINEL)` (R259). -/
def stmtL1 (s : State) : State := if s.lastTValid then advance s else finish (some tSentinel) s

/-- L.2: `return (E_OK, LAST_T)` (R259). -/
def stmtL2 (s : State) : Out := need .lastT s.lastT fun t => .next (finish (some t) s)

/-- BEGIN, B.1 to B.6 (R252). Every statement of it answers a next state. -/
def execBegin (s : State) : Out :=
  .next (runTotal [stmtB1, busRead regId 1, checkId, busRead regCal calBytes, unpackCal, stmtB6]
    (present 0b00 s.modeIn .b1 s))

/-- G.7: START_P with the OSS register as its field (R227, R256). -/
def stmtG7 (s : State) : Out := need .oss s.oss fun oss => execStartP oss s

/-- GET_PRESSURE, G.0 to G.12 (R256). -/
def execGetPressure (mode : Byte) (s : State) : Out :=
  runSeq [fun s => .next (requireReady s), execClamp, execStartT, execSelectDelay .temperature, execReadUt, execAsmUt,
    execCompT, stmtG7, execSelectDelay .pressure, execReadUp, execAsmUp, execCompP, stmtG12]
    (present 0b01 mode .g0 s)

/-- GET_LAST_TEMPERATURE, L.0 to L.2 (R259). -/
def execGetLastTemperature (s : State) : Out :=
  runSeq [fun s => .next (requireReady s), fun s => .next (stmtL1 s), stmtL2] (present 0b10 s.modeIn .l0 s)

/-- OP_SEL = 0b11: "A model must refuse it" (R105). -/
def execReservedHost (_s : State) : Out := .refused .reservedSelector

end Sys2Proof.Machine
end

