-- ==== Sys2Proof/Machine/Dispatch.lean ====
section
/-! DEFINITION. One arm per operation of CORE. -/

namespace Sys2Proof.Machine

def exec (i : Instr) (s : State) : Host.Outcome State Fault Refusal :=
  match i with
  | .startT => Sys2Proof.Machine.execStartT s
  | .startP oss => Sys2Proof.Machine.execStartP oss s
  | .readId => Sys2Proof.Machine.execReadId s
  | .readCal => Sys2Proof.Machine.execReadCal s
  | .readUt => Sys2Proof.Machine.execReadUt s
  | .readUp => Sys2Proof.Machine.execReadUp s
  | .beginOp => Sys2Proof.Machine.execBegin s
  | .getPressure mode => Sys2Proof.Machine.execGetPressure mode s
  | .getLastTemperature => Sys2Proof.Machine.execGetLastTemperature s
  | .reservedHost => Sys2Proof.Machine.execReservedHost s
  | .checkId => Sys2Proof.Machine.execCheckId s
  | .unpackCal => Sys2Proof.Machine.execUnpackCal s
  | .asmUt => Sys2Proof.Machine.execAsmUt s
  | .clamp => Sys2Proof.Machine.execClamp s
  | .asmUp => Sys2Proof.Machine.execAsmUp s
  | .selectDelay conv => Sys2Proof.Machine.execSelectDelay conv s
  | .compT => Sys2Proof.Machine.execCompT s
  | .t1 => Sys2Proof.Machine.execT1 s
  | .t2 => Sys2Proof.Machine.execT2 s
  | .t3 => Sys2Proof.Machine.execT3 s
  | .t4 => Sys2Proof.Machine.execT4 s
  | .compP => Sys2Proof.Machine.execCompP s
  | .p1 => Sys2Proof.Machine.execP1 s
  | .p2 => Sys2Proof.Machine.execP2 s
  | .p3 => Sys2Proof.Machine.execP3 s
  | .p4 => Sys2Proof.Machine.execP4 s
  | .p5 => Sys2Proof.Machine.execP5 s
  | .p6 => Sys2Proof.Machine.execP6 s
  | .p7 => Sys2Proof.Machine.execP7 s
  | .p8 => Sys2Proof.Machine.execP8 s
  | .p9 => Sys2Proof.Machine.execP9 s
  | .p10 => Sys2Proof.Machine.execP10 s
  | .p11 => Sys2Proof.Machine.execP11 s
  | .p12 => Sys2Proof.Machine.execP12 s
  | .p13 => Sys2Proof.Machine.execP13 s
  | .p14 => Sys2Proof.Machine.execP14 s
  | .p15 => Sys2Proof.Machine.execP15 s

end Sys2Proof.Machine
end

