-- ==== Sys2Proof/Machine/Sequencer.lean ====
section
/-! DEFINITION. What STEP selects (R44): the code of the operation to run next, a statement of a sequence's own, or, at
IDLE with no operation presented, nothing (R342). Also where an operation is placed so that it runs next. -/

namespace Sys2Proof.Machine

/-- What the machine does next. -/
inductive Fetched where
  /-- IDLE, and the host presents no operation (R342). -/
  | waiting
  /-- A field of the code to be issued is a register that holds no value (R40). -/
  | unreadable (r : RegName)
  /-- A statement of a sequence that is no operation of the opcode table (R252, R256, R259). -/
  | own
  /-- The code of an operation. -/
  | code (c : Code)
  deriving DecidableEq, Repr

/-- What STEP selects (R44): at IDLE the host's next operation (R104); at B.2, B.4, G.4 and G.9 a register read (R103);
at G.2 and G.7 a command byte (R100), G.7's OSS field being the OSS register (R106); else a STEP operation (R108) or a
statement of the sequence's own. -/
def fetch (s : State) : Fetched :=
  match s.step with
  | .idle =>
    match s.hostQ with
    | [] => .waiting
    | r :: _ => .code (.host r.opSel r.modeIn)
  | .b2 => .code (.rd (readKey regId 1))
  | .b4 => .code (.rd (readKey regCal 22))
  | .g4 => .code (.rd (readKey regData 2))
  | .g9 => .code (.rd (readKey regData 3))
  | .g2 => .code (.cmd8 startTByte)
  | .g7 =>
    match s.oss with
    | some oss => .code (.cmd8 (startPByte oss))
    | none => .unreadable .oss
  | .b1 => .own
  | .b6 => .own
  | .g0 => .own
  | .g12 => .own
  | .l0 => .own
  | .l1 => .own
  | .l2 => .own
  | l => .code (.sel l)

/-- At IDLE the host starts its next operation: it writes OP_SEL and MODE_IN (R45, R308). -/
def accept (s : State) : State :=
  match s.step, s.hostQ with
  | .idle, r :: rest => { s with hostQ := rest, opSel := r.opSel, modeIn := r.modeIn }
  | _, _ => s

/-- The statement of a sequence's own at the label STEP holds (R252, R256, R259). -/
def ownStatement (s : State) : Out :=
  match s.step with
  | .b1 => .next (stmtB1 s)
  | .b6 => .next (stmtB6 s)
  | .g0 => .next (requireReady s)
  | .g12 => stmtG12 s
  | .l0 => .next (requireReady s)
  | .l1 => .next (stmtL1 s)
  | .l2 => stmtL2 s
  | _ => .next s

/-- The label a host operation sets STEP to when it starts (R44); any other operation starts none. -/
def firstLabel : Instr → Option Label
  | .beginOp => some .b1
  | .getPressure _ => some .g0
  | .getLastTemperature => some .l0
  | .reservedHost => none
  | .startT | .startP _ | .readId | .readCal | .readUt | .readUp => none
  | .checkId | .unpackCal | .asmUt | .clamp | .asmUp | .selectDelay _ => none
  | .compT | .t1 | .t2 | .t3 | .t4 => none
  | .compP | .p1 | .p2 | .p3 | .p4 | .p5 | .p6 | .p7 | .p8 => none
  | .p9 | .p10 | .p11 | .p12 | .p13 | .p14 | .p15 => none

/-- The state in which STEP selects a code next: a host operation is presented at IDLE, to run whole (log entry 7); a
read, a command or a STEP operation is put at its label; START_P's field is put where G.7 takes it from, the OSS
register (log entry 5). -/
def place (i : Instr) (s : State) : State :=
  match encode i with
  | .host opSel modeIn =>
    { s with step := .idle, hostQ := { opSel := opSel, modeIn := modeIn } :: s.hostQ, grain := .operation }
  | .sel l => { s with step := l }
  | .cmd8 cmd =>
    if cmd = startTByte then { s with step := .g2 } else { s with step := .g7, oss := some (cmd.extractLsb' 6 2) }
  | .rd key =>
    { s with step :=
        if key = readKey regId 1 then .b2
        else if key = readKey regCal 22 then .b4
        else if key = readKey regData 2 then .g4
        else .g9 }

/-- Place what a table word decodes to; a word that is no operation has no place and leaves the state as it is. -/
def placeWord (nbits w : Nat) (s : State) : State :=
  match decodeTableWord nbits w with
  | some i => place i s
  | none => s

end Sys2Proof.Machine
end

