-- ==== Sys2Proof/Machine/Run.lean ====
section
/-! DEFINITION. How a step runs the operation that STEP selects (R44): by its meaning; or, for a host operation that is
taken one statement a step, by setting STEP to its first label. -/

namespace Sys2Proof.Machine

/-- Run an operation. "A host operation sets STEP to its first label" (R44) and its statements are steps of their own,
the waits among them (R83, R322); or, where State's grain says so, its whole listing is one step (log entry 7). -/
def runOperation (i : Instr) (s : State) : Out :=
  match s.grain, firstLabel i with
  | .statement, some l => .next (enter l s)
  | .statement, none => exec i s
  | .operation, _ => exec i s

/-- Run a code: the operation it decodes to, or a refusal that names the decoder's reason. -/
def runCode (c : Code) (s : State) : Out :=
  match decode c with
  | .ok i => runOperation i s
  | .error e => .refused (.undecodable e)

end Sys2Proof.Machine
end

