-- ==== Sys2Proof/Machine/Step.lean ====
section
/-! DEFINITION. One step of CORE: run what STEP selects (R44). -/

namespace Sys2Proof.Machine

/-- One step. At IDLE a presented operation starts, or runs whole (R44, R251, log entry 7); at a label inside a sequence
its statement runs; at IDLE with nothing presented CORE waits (R342). -/
def step (s : State) : Host.Outcome State Fault Refusal :=
  match fetch s with
  | .waiting => .next s
  | .unreadable r => .fault (.unwritten r)
  | .own => ownStatement s
  | .code c => runCode c (accept s)

/-- `s` with the operation of a table word placed so that the very next step runs it (log entry 5). -/
def State.withFetchWord (s : State) (nbits w : Nat) : State := placeWord nbits w s

end Sys2Proof.Machine
end

