-- ==== Sys2Proof/Safety.lean ====
section
/-! DEFINITION. The terms the claims about CORE are made in: the integer reading of the rules (R10, R130 to R140 and the
step rules, over mathematical integers), what CORE may put on the bus (R72, R80, R109), and the invariant behind the
sentence "The fixed sequences of 44_session.md write every such register before they read it" (R40). -/

namespace Sys2Proof

/-! ## The integer reading of the rules -/

/-- `S32(v)` of R10. -/
def S32 (v : Int) : Int := (v + 2147483648) % 4294967296 - 2147483648

/-- `U32(v)` of R10. -/
def U32 (v : Int) : Int := v % 4294967296

/-- The truncating quotient of R138: `sign(a) * sign(b) * floor(|a| / |b|)`. -/
def truncQuot (a b : Int) : Int := a.sign * b.sign * ((a.natAbs / b.natAbs : Nat) : Int)

/-- X1 of T1 (R161). -/
def refX1 (ut ac5 ac6 : Int) : Int := S32 (S32 (ut - ac6) * ac5) / 32768

/-- The divisor of T2 (R162). -/
def refD (x1 md : Int) : Int := S32 (x1 + md)

/-- X2 of T2 for a non-zero divisor (R162). -/
def refX2 (mc d : Int) : Int := S32 (truncQuot (S32 (mc * 2048)) d)

/-- B5 of T3 (R163). -/
def refB5 (x1 x2 : Int) : Int := S32 (x1 + x2)

/-- T of T4 (R164). -/
def refT (b5 : Int) : Int := S32 (b5 + 8) / 16

/-- B6 of P1 (R181). -/
def refB6 (b5 : Int) : Int := S32 (b5 - 4000)

/-- The common term `B6² >> 12` of P2 and P7 (R182, R187). -/
def refSquare (b6 : Int) : Int := S32 (b6 * b6) / 4096

/-- X3 of P2, P3 and P4 (R182 to R184). -/
def refX3Low (ac2 b2 b6 : Int) : Int := S32 (S32 (b2 * refSquare b6) / 2048 + S32 (ac2 * b6) / 2048)

/-- B3 of P5 (R185). -/
def refB3 (ac1 x3 : Int) (oss : Nat) : Int :=
  S32 (truncQuot (S32 (S32 (S32 (S32 (ac1 * 4) + x3) * 2 ^ oss) + 2)) 4)

/-- X3 of P6, P7 and P8 (R186 to R188). -/
def refX3High (ac3 b1 b6 : Int) : Int :=
  S32 (S32 (S32 (ac3 * b6) / 8192 + S32 (b1 * refSquare b6) / 65536) + 2) / 4

/-- B4 of P9 (R189). -/
def refB4 (ac4 x3 : Int) : Int := U32 (ac4 * U32 (S32 (x3 + 32768))) / 32768

/-- B7 of P10 (R190). -/
def refB7 (up b3 : Int) (oss : Nat) : Int := U32 (U32 (up - U32 b3) * (50000 / 2 ^ oss))

/-- p of P11 for a non-zero B4 (R191). -/
def refP (b7 b4 : Int) : Int :=
  S32 (if b7 < 2147483648 then U32 (b7 * 2) / b4 else U32 (b7 / b4 * 2))

/-- X1 of P12 and P13 (R192, R193). -/
def refX1Out (p : Int) : Int := S32 (S32 (p / 256 * (p / 256)) * 3038) / 65536

/-- X2 of P14 (R194). -/
def refX2Out (p : Int) : Int := S32 (-7357 * p) / 65536

/-- PRES of P15 (R195). -/
def refPres (p x1 x2 : Int) : Int := S32 (p + S32 (S32 (x1 + x2) + 3791) / 16)

/-- The eleven calibration entries as integers, with the signedness of R32. -/
structure CalInts where
  ac1 : Int
  ac2 : Int
  ac3 : Int
  ac4 : Int
  ac5 : Int
  ac6 : Int
  b1 : Int
  b2 : Int
  mb : Int
  mc : Int
  md : Int
  deriving DecidableEq, Repr

/-- `{c[2k], c[2k+1]}` of a payload as an unsigned integer (R11, R222). -/
def refField (c : List Byte) (k : Nat) : Int := (c.getD (2 * k) 0).toNat * 256 + (c.getD (2 * k + 1) 0).toNat

/-- `sext_16` of R11. -/
def refSext (h : Int) : Int := if h < 32768 then h else h - 65536

/-- The calibration integers of a 22-byte payload, in the order and with the signedness of R32 and R222. -/
def payloadInts (c : List Byte) : CalInts :=
  { ac1 := refSext (refField c 0), ac2 := refSext (refField c 1), ac3 := refSext (refField c 2),
    ac4 := refField c 3, ac5 := refField c 4, ac6 := refField c 5,
    b1 := refSext (refField c 6), b2 := refSext (refField c 7), mb := refSext (refField c 8),
    mc := refSext (refField c 9), md := refSext (refField c 10) }

/-- UP from the three bytes of a READ_UP, as an integer (R225). -/
def refUp (v0 v1 v2 : Byte) (oss : Nat) : Int := (v0.toNat * 65536 + v1.toNat * 256 + v2.toNat) / 2 ^ (8 - oss)

/-- The pressure delay of R228, as the list the rule writes. -/
def refDelay (oss : Nat) : Nat := [5, 8, 14, 26].getD oss 0

/-- X1, X2, B5 and T after COMP_T; `none` where the divisor of T2 is zero (R160, R162). -/
def refCompT (c : CalInts) (ut : Int) : Option (Int × Int × Int × Int) :=
  let x1 := refX1 ut c.ac5 c.ac6
  let d := refD x1 c.md
  if d = 0 then none
  else
    let x2 := refX2 c.mc d
    let b5 := refB5 x1 x2
    some (x1, x2, b5, refT b5)

/-- B4 as COMP_P computes it (R181, R186 to R189). -/
def refCompB4 (c : CalInts) (b5 : Int) : Int := refB4 c.ac4 (refX3High c.ac3 c.b1 (refB6 b5))

/-- B7 as COMP_P computes it (R181 to R185, R190). -/
def refCompB7 (c : CalInts) (b5 up : Int) (oss : Nat) : Int :=
  refB7 up (refB3 c.ac1 (refX3Low c.ac2 c.b2 (refB6 b5)) oss) oss

/-- p and PRES after COMP_P; `none` where B4 is zero (R180, R191 to R195). -/
def refCompP (c : CalInts) (b5 up : Int) (oss : Nat) : Option (Int × Int) :=
  let b4 := refCompB4 c b5
  if b4 = 0 then none
  else
    let p := refP (refCompB7 c b5 up oss) b4
    some (p, refPres p (refX1Out p) (refX2Out p))

namespace Machine

/-! ## The calibration file as integers -/

/-- `cal` holds the eleven integers `c`, each entry read with the signedness of R32. -/
def Cal.holds (cal : Cal) (c : CalInts) : Prop :=
  cal.ac1.map BitVec.toInt = some c.ac1 ∧ cal.ac2.map BitVec.toInt = some c.ac2 ∧
  cal.ac3.map BitVec.toInt = some c.ac3 ∧ cal.ac4.map (fun h => (h.toNat : Int)) = some c.ac4 ∧
  cal.ac5.map (fun h => (h.toNat : Int)) = some c.ac5 ∧ cal.ac6.map (fun h => (h.toNat : Int)) = some c.ac6 ∧
  cal.b1.map BitVec.toInt = some c.b1 ∧ cal.b2.map BitVec.toInt = some c.b2 ∧
  cal.mb.map BitVec.toInt = some c.mb ∧ cal.mc.map BitVec.toInt = some c.mc ∧
  cal.md.map BitVec.toInt = some c.md

/-! ## The bus -/

/-- What CORE may put on the bus or wait for: the five command bytes, to CTRL alone (R109); the four reads (R103), with
a count no larger than asked (R74); the waits of R228. It never calls `selectRegister` (R72). -/
def legalEvent : Event → Bool
  | .wr reg b => reg == 0xF4 && (b == 0x2E || b == 0x34 || b == 0x74 || b == 0xB4 || b == 0xF4)
  | .rq reg n avail =>
    ((reg == 0xD0 && n == 1) || (reg == 0xAA && n == 22) || (reg == 0xF6 && n == 2) || (reg == 0xF6 && n == 3))
      && decide (avail ≤ n)
  | .rd _ => true
  | .wait n => n == 5 || n == 8 || n == 14 || n == 26
  | .sel _ => false

/-- The trace entries of a completed `BusRead(reg, n)` that received `bs` (R76, R111). -/
def readEvents (reg : Byte) (bs : List Byte) : List Event :=
  .rq reg bs.length bs.length :: bs.map .rd

/-- The register and the byte count of the four reads (R103). -/
def readOf : Instr → Option (Byte × Nat)
  | .readId => some (0xD0, 1)
  | .readCal => some (0xAA, 22)
  | .readUt => some (0xF6, 2)
  | .readUp => some (0xF6, 3)
  | _ => none

/-- The three host operations (R104). -/
def isHostOp : Instr → Bool
  | .beginOp => true
  | .getPressure _ => true
  | .getLastTemperature => true
  | _ => false

/-- The host's next operation is the one `opSel` selects (R104, R342). -/
def State.presents (s : State) (opSel : BitVec 2) : Prop :=
  s.step = .idle ∧ ∃ modeIn rest, s.hostQ = { opSel := opSel, modeIn := modeIn } :: rest

/-- Two states that give a GET_PRESSURE the same inputs: the session, the calibration but for MB, the cached
temperature, the oracle and the wait capability. UT, UP, OSS, B5, the working registers, the ports, the receive queue
and the latch may differ (R34, R37, R258). -/
def State.sameInputs (s s' : State) : Prop :=
  s'.session = s.session ∧ { s'.cal with mb := none } = { s.cal with mb := none } ∧ s'.lastT = s.lastT ∧
  s'.lastTValid = s.lastTValid ∧ s'.replies = s.replies ∧ s'.draws = s.draws ∧ s'.waitCap = s.waitCap ∧
  s'.trace = s.trace

/-- Two states show the host the same: result, recorded error, cached temperature, session and bus trace. -/
def State.sameResults (t t' : State) : Prop :=
  t'.status = t.status ∧ t'.value = t.value ∧ t'.info = t.info ∧ t'.lastT = t.lastT ∧
  t'.lastTValid = t.lastTValid ∧ t'.session = t.session ∧ t'.trace = t.trace

/-! ## The invariant -/

/-- Whether a register holds a value (R40). -/
def State.written (s : State) : RegName → Bool
  | .ac1 => s.cal.ac1.isSome
  | .ac2 => s.cal.ac2.isSome
  | .ac3 => s.cal.ac3.isSome
  | .ac4 => s.cal.ac4.isSome
  | .ac5 => s.cal.ac5.isSome
  | .ac6 => s.cal.ac6.isSome
  | .calB1 => s.cal.b1.isSome
  | .calB2 => s.cal.b2.isSome
  | .mb => s.cal.mb.isSome
  | .mc => s.cal.mc.isSome
  | .md => s.cal.md.isSome
  | .ut => s.ut.isSome
  | .up => s.up.isSome
  | .oss => s.oss.isSome
  | .b5 => s.b5.isSome
  | .x1 => s.x1.isSome
  | .x2 => s.x2.isSome
  | .x3 => s.x3.isSome
  | .t => s.t.isSome
  | .b3 => s.b3.isSome
  | .b4 => s.b4.isSome
  | .b6 => s.b6.isSome
  | .b7 => s.b7.isSome
  | .p => s.p.isSome
  | .pres => s.pres.isSome
  | .lastT => s.lastT.isSome
  | .status => s.status.isSome
  | .value => s.value.isSome

/-- The eleven entries of CAL (R32). -/
def calRegs : List RegName := [.ac1, .ac2, .ac3, .ac4, .ac5, .ac6, .calB1, .calB2, .mb, .mc, .md]

/-- The registers the rest of a sequence reads before it writes them, at each label (R252, R256, R259, and the operands
of R161 to R164 and R181 to R195). -/
def liveAt : Label → List RegName
  | .idle | .b1 | .b2 | .b3 | .b4 | .b5 | .b6 => []
  | .g0 | .g1 => []
  | .g2 | .g3 | .g4 | .g5 => [.oss]
  | .g6 | .t1 => [.oss, .ut]
  | .t2 => [.oss, .x1]
  | .t3 => [.oss, .x1, .x2]
  | .t4 => [.oss, .b5]
  | .g7 | .g8 | .g9 | .g10 => [.oss, .b5, .t]
  | .g11 | .p1 => [.oss, .b5, .t, .up]
  | .p2 => [.oss, .t, .up, .b6]
  | .p3 => [.oss, .t, .up, .b6, .x1]
  | .p4 => [.oss, .t, .up, .b6, .x1, .x2]
  | .p5 => [.oss, .t, .up, .b6, .x3]
  | .p6 => [.oss, .t, .up, .b6, .b3]
  | .p7 => [.oss, .t, .up, .b6, .b3, .x1]
  | .p8 => [.oss, .t, .up, .b3, .x1, .x2]
  | .p9 => [.oss, .t, .up, .b3, .x3]
  | .p10 => [.oss, .t, .up, .b3, .b4]
  | .p11 => [.t, .b4, .b7]
  | .p12 => [.t, .p]
  | .p13 => [.t, .p, .x1]
  | .p14 => [.t, .p, .x1]
  | .p15 => [.t, .p, .x1, .x2]
  | .g12 => [.t, .pres]
  | .l0 | .l1 => []
  | .l2 => [.lastT]

/-- The session state a label can be reached in: UNINIT after B.1, READY after G.0 and after L.0 (R252, R255, R259). -/
def sessionAt : Label → Option Session
  | .idle | .b1 | .g0 | .l0 => none
  | .b2 | .b3 | .b4 | .b5 | .b6 => some .uninit
  | .g1 | .g2 | .g3 | .g4 | .g5 | .g6 | .t1 | .t2 | .t3 | .t4 | .g7 | .g8 | .g9 | .g10 | .g11 => some .ready
  | .p1 | .p2 | .p3 | .p4 | .p5 | .p6 | .p7 | .p8 | .p9 | .p10 | .p11 | .p12 | .p13 | .p14 | .p15 => some .ready
  | .g12 | .l1 | .l2 => some .ready

/-- How many bytes of the last BusRead a label's statement consumes (R221 to R225). -/
def bytesAt : Label → Nat
  | .b3 => 1
  | .b5 => 22
  | .g5 => 2
  | .g10 => 3
  | _ => 0

/-- The calibration file is written whole before READY can hold (R31, R254). B.6 makes the session READY, so the file
must be written there already. -/
def calReady (s : State) : Bool :=
  (s.session != .ready && s.step != .b6) || calRegs.all s.written

/-- The invariant of every run: READY has its calibration (R254), a valid LAST_T has its value (R42), the registers the
rest of the running sequence reads are written (R40), the session fits the sequence (R250), and the bytes an operation
consumes have been received (R46). -/
def State.inv (s : State) : Bool :=
  calReady s && (!s.lastTValid || s.written .lastT) && (liveAt s.step).all s.written
    && (match sessionAt s.step with | some q => s.session == q | none => true)
    && decide (bytesAt s.step ≤ s.latch.length)

end Machine

end Sys2Proof
end

