-- ==== Sys2Proof/Certificates/Slice0/Obligations.lean ====
section
/-! DEFINITION. The statements about CORE. Each docstring names the rules it formalises. A result is stated over the
mathematical integers of R10 (the `ref…` functions of Sys2Proof/Safety.lean); the next state is written as an update of
the old one, so what the update does not name is unchanged: that is the frame. -/

open Sys2Proof Sys2Proof.Machine

/-! ## Encoding -/

/-- R100 to R104, R108, R110: the code and the bytes of every operation decode to it. (The order of a read key's two
bytes and the selector's place in its byte are the model's choice, log entries 11 and 20.) -/
def Obligations.EncodedOperationsDecode : Prop :=
  ∀ i : Instr, decode (encode i) = .ok i ∧ decodeBytes (encodeBytes i).1 (encodeBytes i).2 = .ok i

/-- R100 to R104, R109, R110: bytes that decode are exactly the bytes of what they decode to, so no byte string has two
readings and no bit of a byte is passed over. (The order of a read key's two bytes and the
selector's place in its byte are the model's choice, log entries 11 and 20.) -/
def Obligations.DecodedBytesAreTheOperationsOwn : Prop :=
  ∀ (fmt : Format) (bs : List Byte) (i : Instr), decodeBytes fmt bs = .ok i → encodeBytes i = (fmt, bs)

/-- The tables of R101 to R104, word by word; and R109 with R103: of all command bytes and read keys only five and four
decode. -/
def Obligations.OnlyTheListedWordsDecode : Prop :=
  decode (.cmd8 0b00101110) = .ok .startT ∧ decode (.cmd8 0b00110100) = .ok (.startP 0) ∧
  decode (.cmd8 0b01110100) = .ok (.startP 1) ∧ decode (.cmd8 0b10110100) = .ok (.startP 2) ∧
  decode (.cmd8 0b11110100) = .ok (.startP 3) ∧ decode (.rd 0xD001) = .ok .readId ∧
  decode (.rd 0xAA16) = .ok .readCal ∧ decode (.rd 0xF602) = .ok .readUt ∧ decode (.rd 0xF603) = .ok .readUp ∧
  (∀ m, decode (.host 0b00 m) = .ok .beginOp) ∧ (∀ m, decode (.host 0b01 m) = .ok (.getPressure m)) ∧
  (∀ m, decode (.host 0b10 m) = .ok .getLastTemperature) ∧
  (∀ b i, decode (.cmd8 b) = .ok i → b ∈ [0x2E, 0x34, 0x74, 0xB4, 0xF4]) ∧
  (∀ k i, decode (.rd k) = .ok i → k ∈ [0xD001, 0xAA16, 0xF602, 0xF603])

/-! ## Steps -/

/-- R44, R45, R104: a step is exec of the operation the fetched code decodes to, at the state in which, at IDLE, the
host has written the ports; and every code a fetch gives decodes. A host operation that is taken one statement a step
instead sets STEP to its first label. (The two grains are the model's choice, log entry 7.) -/
def Obligations.StepRunsTheSelectedOperation : Prop :=
  (∀ s c i, fetch s = .code c → decode c = .ok i → s.grain = .operation ∨ firstLabel i = none →
    step s = exec i (accept s)) ∧
  (∀ s c i l, fetch s = .code c → decode c = .ok i → s.grain = .statement → firstLabel i = some l →
    step s = .next { accept s with step := l }) ∧
  (∀ s c, fetch s = .code c → ∃ i, decode c = .ok i) ∧
  (∀ (s : State) r rest, s.step = .idle → s.hostQ = r :: rest →
    fetch s = .code (.host r.opSel r.modeIn) ∧
    accept s = { s with hostQ := rest, opSel := r.opSel, modeIn := r.modeIn }) ∧
  (∀ s : State, s.step ≠ .idle → accept s = s)

/-- The listings of R252 and R256 with R103, R106 and R108: which operation each label selects. -/
def Obligations.LabelsSelectTheirOperations : Prop :=
  (∀ s : State, s.step = .b2 → step s = exec .readId s) ∧
  (∀ s : State, s.step = .b3 → step s = exec .checkId s) ∧
  (∀ s : State, s.step = .b4 → step s = exec .readCal s) ∧
  (∀ s : State, s.step = .b5 → step s = exec .unpackCal s) ∧
  (∀ s : State, s.step = .g1 → step s = exec .clamp s) ∧
  (∀ s : State, s.step = .g2 → step s = exec .startT s) ∧
  (∀ s : State, s.step = .g3 → step s = exec (.selectDelay .temperature) s) ∧
  (∀ s : State, s.step = .g4 → step s = exec .readUt s) ∧
  (∀ s : State, s.step = .g5 → step s = exec .asmUt s) ∧
  (∀ s : State, s.step = .g6 → step s = exec .compT s) ∧
  (∀ (s : State) oss, s.step = .g7 → s.oss = some oss → step s = exec (.startP oss) s) ∧
  (∀ s : State, s.step = .g8 → step s = exec (.selectDelay .pressure) s) ∧
  (∀ s : State, s.step = .g9 → step s = exec .readUp s) ∧
  (∀ s : State, s.step = .g10 → step s = exec .asmUp s) ∧
  (∀ s : State, s.step = .g11 → step s = exec .compP s)

/-- Log entry 5 (the model's choice of how an operation is placed): once placed, any operation is the one the next step
runs (a host operation whole), and `withFetchWord` places what the word decodes to. -/
def Obligations.PlacedOperationRunsNext : Prop :=
  (∀ (i : Instr) (s : State), fetch (place i s) = .code (encode i) ∧ step (place i s) = exec i (accept (place i s))) ∧
  (∀ (nbits w : Nat) (i : Instr) (s : State), decodeTableWord nbits w = some i →
    step (s.withFetchWord nbits w) = exec i (accept (place i s)))

/-- R342: at IDLE with no operation presented CORE waits. -/
def Obligations.IdleCoreWaits : Prop :=
  ∀ s : State, s.step = .idle → s.hostQ = [] → step s = .next s

/-- R252 (B.1, B.6), R255, R256 (G.0, G.12), R257, R259 (L.0 to L.2): the statements of the listings that are no
operation of the opcode table. -/
def Obligations.SequenceStatementsRun : Prop :=
  (∀ s : State, s.step = .b1 → step s = .next { s with session := .uninit, step := .b2 }) ∧
  (∀ s : State, s.step = .b6 → step s = .next
    { s with session := .ready, lastTValid := false, status := some .ok, value := none, info := none, step := .idle }) ∧
  (∀ s : State, s.step = .g0 → s.session = .ready → step s = .next { s with step := .g1 }) ∧
  (∀ s : State, s.step = .l0 → s.session = .ready → step s = .next { s with step := .l1 }) ∧
  (∀ s : State, s.step = .g0 ∨ s.step = .l0 → s.session = .uninit → step s = .next
    { s with status := some .notReady, value := none, info := some .notReady, step := .idle }) ∧
  (∀ (s : State) t pres, s.step = .g12 → s.t = some t → s.pres = some pres → step s = .next
    { s with lastT := some t, lastTValid := true, status := some .ok, value := some pres, info := none,
             step := .idle }) ∧
  (∀ s : State, s.step = .l1 → s.lastTValid = false → step s = .next
    { s with status := some .ok, value := some (-32768), info := none, step := .idle }) ∧
  (∀ s : State, s.step = .l1 → s.lastTValid = true → step s = .next { s with step := .l2 }) ∧
  (∀ (s : State) t, s.step = .l2 → s.lastT = some t → step s = .next
    { s with status := some .ok, value := some t, info := none, step := .idle })

/-! ## Reset and the invariant -/

/-- R341, row by row, and the host's reads of STATUS and VALUE, which are faults after reset (the spec's own decision
D29). -/
def Obligations.ResetLeavesTheTable : Prop :=
  State.reset.session = .uninit ∧ State.reset.lastTValid = false ∧ State.reset.step = .idle ∧
  State.reset.status = none ∧ (∀ r : RegName, State.reset.written r = false) ∧
  readStatus State.reset = .error (.unwritten .status) ∧ readValue State.reset = .error (.unwritten .value)

/-- The state after reset meets the invariant (R40, R341). -/
def Obligations.ResetMeetsTheInvariant : Prop := State.reset.inv = true

/-- R40, R42, R250, R254: READY has its calibration, a valid LAST_T has its value, the session fits the running
sequence, and the registers and bytes the rest of the sequence reads are there; every step keeps this. -/
def Obligations.StepKeepsTheInvariant : Prop :=
  ∀ s t : State, s.inv = true → step s = .next t → t.inv = true

/-- R40, R341: "The fixed sequences of 44_session.md write every such register before they read it": under the invariant
no step reads an unwritten register, and the machine goes on unless the wait capability hangs for one of the four delays
or the host presents the reserved selector. -/
def Obligations.NoStepReadsAnUnwrittenRegister : Prop :=
  ∀ s : State, s.inv = true → (∀ r, step s ≠ .fault (.unwritten r)) ∧
    ((∀ n ∈ [5, 8, 14, 26], callWait s.waitCap n = .returns) → ¬ s.presents 0b11 → ∃ t, step s = .next t)

/-! ## Arithmetic primitives -/

/-- R131, R132, R133, R136: add, subtract, multiply and the left shift wrap mod 2^32 (the spec's own decisions D1 and
D5). -/
def Obligations.AddSubtractMultiplyWrap : Prop :=
  (∀ a b : W32,
    (add32 a b).toInt = S32 (a.toInt + b.toInt) ∧ ((add32 a b).toNat : Int) = U32 (a.toNat + b.toNat) ∧
    (sub32 a b).toInt = S32 (a.toInt - b.toInt) ∧ ((sub32 a b).toNat : Int) = U32 (a.toNat - b.toNat) ∧
    (mul32 a b).toInt = S32 (a.toInt * b.toInt) ∧ ((mul32 a b).toNat : Int) = U32 (a.toNat * b.toNat)) ∧
  (∀ (v : W32) (n : Nat), n ≤ 3 → (lsl v n).toInt = S32 (v.toInt * 2 ^ n))

/-- R134, R135: the right shifts of an s32 and of a u32 are floor divisions by 2^n. -/
def Obligations.RightShiftsAreFloorDivisions : Prop :=
  ∀ (v : W32) (n : Nat), n ≤ 31 →
    (asr v n).toInt = v.toInt / 2 ^ n ∧ (lsr v n).toNat = v.toNat / 2 ^ n

/-- R138: signed division truncates toward zero; the quotient that leaves s32, at −2^31 / −1, wraps (the spec's own
decisions D1 and D31). -/
def Obligations.SignedDivisionTruncates : Prop :=
  ∀ a b : W32, b ≠ 0 → (sdiv a b).toInt = S32 (truncQuot a.toInt b.toInt) ∧
    (¬ (a.toInt = -2147483648 ∧ b.toInt = -1) → (sdiv a b).toInt = truncQuot a.toInt b.toInt)

/-- R139: unsigned division is the floor of the quotient. -/
def Obligations.UnsignedDivisionFloors : Prop :=
  ∀ a b : W32, b ≠ 0 → (udiv a b).toNat = a.toNat / b.toNat

/-- R144 (the spec derives it): an arithmetic shift never exceeds the truncating quotient, and equals it exactly when
the value is non-negative or a multiple of 2^n. -/
def Obligations.ShiftIsAtMostTruncatingQuotient : Prop :=
  ∀ (v : W32) (n : Nat), n ≤ 31 →
    (asr v n).toInt ≤ truncQuot v.toInt (2 ^ n) ∧
    ((asr v n).toInt = truncQuot v.toInt (2 ^ n) ↔ 0 ≤ v.toInt ∨ (2 ^ n : Int) ∣ v.toInt)

/-- R140, R141: the conversions keep the pattern and change its reading; the unsigned compare of P11 is a test of
bit 31 (the spec's own decision D6 and derivation). -/
def Obligations.ConversionsReinterpret : Prop :=
  ∀ a b : W32, ((toU32 a).toNat : Int) = U32 a.toInt ∧ (toS32 a).toInt = S32 a.toNat ∧
    (ult a b = true ↔ a.toNat < b.toNat) ∧ (ult a 0x80000000 = true ↔ a.getLsbD 31 = false)

/-! ## Temperature pass -/

/-- R161: T1 and its range (the product wraps by the spec's own decision D1). -/
def Obligations.T1ScalesTheSample : Prop :=
  ∀ (s : State) (ut ac5 ac6 : Half), s.ut = some ut → s.cal.ac5 = some ac5 → s.cal.ac6 = some ac6 →
    ∃ v : W32, exec .t1 s = .next { s with x1 := some v, step := nextLabel s.step } ∧
      v.toInt = refX1 ut.toNat ac5.toNat ac6.toNat ∧ -65536 ≤ v.toInt ∧ v.toInt ≤ 65535

/-- R162: T2 with a non-zero divisor, and the bound on its quotient (R163); the division truncates. -/
def Obligations.T2DividesByTheSum : Prop :=
  ∀ (s : State) (x1 : W32) (mc md : Half), s.x1 = some x1 → s.cal.mc = some mc → s.cal.md = some md →
    refD x1.toInt md.toInt ≠ 0 →
    ∃ v : W32, exec .t2 s = .next { s with x2 := some v, step := nextLabel s.step } ∧
      v.toInt = refX2 mc.toInt (refD x1.toInt md.toInt) ∧ -67108864 ≤ v.toInt ∧ v.toInt ≤ 67108864

/-- R303: T2 with a zero divisor ends the operation with E_DIV0_TEMP, and writes no X2; whether MC is written plays no
part. -/
def Obligations.T2ReportsAZeroDivisor : Prop :=
  ∀ (s : State) (x1 : W32) (md : Half), s.x1 = some x1 → s.cal.md = some md →
    refD x1.toInt md.toInt = 0 →
    ∃ m : W32, m.toInt = md.toInt ∧ exec .t2 s = .next
      { s with status := some .div0Temp, value := none, info := some (.div0Temp x1 m), step := .idle }

/-- R163, R164: T3 and T4 (T4's division is the floor of an arithmetic shift, conflict C2). -/
def Obligations.T3AndT4GiveTheTemperature : Prop :=
  (∀ (s : State) (x1 x2 : W32), s.x1 = some x1 → s.x2 = some x2 →
    ∃ v : W32, exec .t3 s = .next { s with b5 := some v, step := nextLabel s.step } ∧
      v.toInt = refB5 x1.toInt x2.toInt) ∧
  (∀ (s : State) (b5 : W32), s.b5 = some b5 →
    ∃ v : W32, exec .t4 s = .next { s with t := some v, step := nextLabel s.step } ∧ v.toInt = refT b5.toInt)

/-- R160 with R161 to R164: the whole pass. A non-zero divisor: X1, X2, B5 and T take the rules' values, within the
bounds of R163 and R164, and nothing else changes but STEP, which goes to G.7. A zero divisor: T3 and T4 do not run, no
B5 and no T is written, and the operation ends with E_DIV0_TEMP. -/
def Obligations.TemperaturePassMatchesTheFormulas : Prop :=
  ∀ (s : State) (ut ac5 ac6 mc md : Half), s.ut = some ut → s.cal.ac5 = some ac5 → s.cal.ac6 = some ac6 →
    s.cal.mc = some mc → s.cal.md = some md →
    ∃ x1 : W32, x1.toInt = refX1 ut.toNat ac5.toNat ac6.toNat ∧
      (refD x1.toInt md.toInt ≠ 0 → ∃ x2 b5 t : W32,
        exec .compT s = .next { s with x1 := some x1, x2 := some x2, b5 := some b5, t := some t, step := .g7 } ∧
        x2.toInt = refX2 mc.toInt (refD x1.toInt md.toInt) ∧ b5.toInt = x1.toInt + x2.toInt ∧
        t.toInt = (b5.toInt + 8) / 16 ∧ -67174400 ≤ b5.toInt ∧ b5.toInt ≤ 67174399 ∧
        -4198400 ≤ t.toInt ∧ t.toInt ≤ 4198400) ∧
      (refD x1.toInt md.toInt = 0 → ∃ m : W32, m.toInt = md.toInt ∧ exec .compT s = .next
        { s with x1 := some x1, status := some .div0Temp, value := none, info := some (.div0Temp x1 m),
                 step := .idle })

/-! ## Pressure pass -/

/-- R181, R182: P1 and P2 (their products wrap by the spec's own decision D1). -/
def Obligations.P1AndP2GiveTheFirstTerms : Prop :=
  (∀ (s : State) (b5 : W32), s.b5 = some b5 →
    ∃ v : W32, exec .p1 s = .next { s with b6 := some v, step := nextLabel s.step } ∧ v.toInt = refB6 b5.toInt) ∧
  (∀ (s : State) (b6 : W32) (b2 : Half), s.b6 = some b6 → s.cal.b2 = some b2 →
    ∃ v : W32, exec .p2 s = .next { s with x1 := some v, step := nextLabel s.step } ∧
      v.toInt = S32 (b2.toInt * refSquare b6.toInt) / 2048)

/-- R183, R186, R187: P3, P6 and P7, each an arithmetic shift of a signed product. -/
def Obligations.P3P6P7ShiftSignedProducts : Prop :=
  (∀ (s : State) (b6 : W32) (ac2 : Half), s.b6 = some b6 → s.cal.ac2 = some ac2 →
    ∃ v : W32, exec .p3 s = .next { s with x2 := some v, step := nextLabel s.step } ∧
      v.toInt = S32 (ac2.toInt * b6.toInt) / 2048) ∧
  (∀ (s : State) (b6 : W32) (ac3 : Half), s.b6 = some b6 → s.cal.ac3 = some ac3 →
    ∃ v : W32, exec .p6 s = .next { s with x1 := some v, step := nextLabel s.step } ∧
      v.toInt = S32 (ac3.toInt * b6.toInt) / 8192) ∧
  (∀ (s : State) (b6 : W32) (b1 : Half), s.b6 = some b6 → s.cal.b1 = some b1 →
    ∃ v : W32, exec .p7 s = .next { s with x2 := some v, step := nextLabel s.step } ∧
      v.toInt = S32 (b1.toInt * refSquare b6.toInt) / 65536)

/-- R184, R188: P4 and P8, which give X3. -/
def Obligations.P4AndP8SumTheTerms : Prop :=
  (∀ (s : State) (x1 x2 : W32), s.x1 = some x1 → s.x2 = some x2 →
    ∃ v : W32, exec .p4 s = .next { s with x3 := some v, step := nextLabel s.step } ∧
      v.toInt = S32 (x1.toInt + x2.toInt)) ∧
  (∀ (s : State) (x1 x2 : W32), s.x1 = some x1 → s.x2 = some x2 →
    ∃ v : W32, exec .p8 s = .next { s with x3 := some v, step := nextLabel s.step } ∧
      v.toInt = S32 (S32 (x1.toInt + x2.toInt) + 2) / 4)

/-- R185: P5 for every oversampling mode; the division by 4 truncates (the spec's own decisions D5 and D31). -/
def Obligations.P5GivesB3 : Prop :=
  ∀ (s : State) (ac1 : Half) (x3 : W32) (oss : BitVec 2), s.cal.ac1 = some ac1 → s.x3 = some x3 →
    s.oss = some oss →
    ∃ v : W32, exec .p5 s = .next { s with b3 := some v, step := nextLabel s.step } ∧
      v.toInt = refB3 ac1.toInt x3.toInt oss.toNat

/-- R189: P9, unsigned, with AC4 read unsigned; B4 lies in [0, 131071] (the spec's own decision D6). -/
def Obligations.P9GivesB4 : Prop :=
  ∀ (s : State) (ac4 : Half) (x3 : W32), s.cal.ac4 = some ac4 → s.x3 = some x3 →
    ∃ v : W32, exec .p9 s = .next { s with b4 := some v, step := nextLabel s.step } ∧
      (v.toNat : Int) = refB4 ac4.toNat x3.toInt ∧ v.toNat ≤ 131071

/-- R190: P10, unsigned: the difference and the product wrap (the spec's own decision D6). -/
def Obligations.P10GivesB7 : Prop :=
  ∀ (s : State) (up : BitVec 19) (b3 : W32) (oss : BitVec 2), s.up = some up → s.b3 = some b3 → s.oss = some oss →
    ∃ v : W32, exec .p10 s = .next { s with b7 := some v, step := nextLabel s.step } ∧
      (v.toNat : Int) = refB7 up.toNat b3.toInt oss.toNat

/-- R191: P11 with a non-zero B4, on both sides of its branch (the spec's own decision D6). -/
def Obligations.P11DividesOnBothBranches : Prop :=
  ∀ (s : State) (b7 b4 : W32), s.b7 = some b7 → s.b4 = some b4 → b4.toNat ≠ 0 →
    ∃ v : W32, exec .p11 s = .next { s with p := some v, step := nextLabel s.step } ∧
      v.toInt = refP b7.toNat b4.toNat

/-- R304: a zero B4 ends the operation with E_DIV0_PRES before either division, whether B7 is written or not; and
P9 gives a zero B4 exactly when its product is below 2^15 mod 2^32, in particular when AC4 = 0 and when X3 + 32768 is 0
mod 2^32. -/
def Obligations.P11ReportsAZeroDivisor : Prop :=
  (∀ (s : State) (b4 : W32), s.b4 = some b4 → b4.toNat = 0 →
    exec .p11 s = .next
      { s with status := some .div0Pres, value := none, info := some (.div0Pres b4), step := .idle }) ∧
  (∀ (s t : State) (ac4 : Half) (x3 : W32), s.cal.ac4 = some ac4 → s.x3 = some x3 → exec .p9 s = .next t →
    (t.b4 = some 0 ↔ U32 (ac4.toNat * U32 (x3.toInt + 32768)) < 32768) ∧
    (ac4.toNat = 0 → t.b4 = some 0) ∧ (U32 (x3.toInt + 32768) = 0 → t.b4 = some 0))

/-- R192, R193, R194: P12, P13 and P14; P13 reads the old X1 before it writes the new one. -/
def Obligations.P12P13P14ScaleThePressure : Prop :=
  (∀ (s : State) (p : W32), s.p = some p →
    ∃ v : W32, exec .p12 s = .next { s with x1 := some v, step := nextLabel s.step } ∧
      v.toInt = S32 (p.toInt / 256 * (p.toInt / 256))) ∧
  (∀ (s : State) (x1 : W32), s.x1 = some x1 →
    ∃ v : W32, exec .p13 s = .next { s with x1 := some v, step := nextLabel s.step } ∧
      v.toInt = S32 (x1.toInt * 3038) / 65536) ∧
  (∀ (s : State) (p : W32), s.p = some p →
    ∃ v : W32, exec .p14 s = .next { s with x2 := some v, step := nextLabel s.step } ∧
      v.toInt = S32 (-7357 * p.toInt) / 65536)

/-- R195: P15, the result in pascals. -/
def Obligations.P15GivesThePressure : Prop :=
  ∀ (s : State) (p x1 x2 : W32), s.p = some p → s.x1 = some x1 → s.x2 = some x2 →
    ∃ v : W32, exec .p15 s = .next { s with pres := some v, step := nextLabel s.step } ∧
      v.toInt = refPres p.toInt x1.toInt x2.toInt

/-- R180 with R181 to R195: the 32-bit pass computes the integer formulas of the rules, for every operand. A non-zero
B4: every working register takes the rules' value and STEP goes to G.12. A zero B4: P12 to P15 do not run, no p and no
PRES is written, and the operation ends with E_DIV0_PRES. Nothing else changes. -/
def Obligations.PressurePassMatchesTheFormulas : Prop :=
  ∀ (s : State) (ac1 ac2 ac3 ac4 b1 b2 : Half) (b5 : W32) (up : BitVec 19) (oss : BitVec 2),
    s.cal.ac1 = some ac1 → s.cal.ac2 = some ac2 → s.cal.ac3 = some ac3 → s.cal.ac4 = some ac4 →
    s.cal.b1 = some b1 → s.cal.b2 = some b2 → s.b5 = some b5 → s.up = some up → s.oss = some oss →
    ∃ b6 b3 x3 b4 b7 : W32,
      b6.toInt = refB6 b5.toInt ∧
      b3.toInt = refB3 ac1.toInt (refX3Low ac2.toInt b2.toInt b6.toInt) oss.toNat ∧
      x3.toInt = refX3High ac3.toInt b1.toInt b6.toInt ∧ (b4.toNat : Int) = refB4 ac4.toNat x3.toInt ∧
      (b7.toNat : Int) = refB7 up.toNat b3.toInt oss.toNat ∧
      (b4.toNat ≠ 0 → ∃ p x1 x2 pres : W32,
        exec .compP s = .next
          { s with b6 := some b6, b3 := some b3, x3 := some x3, b4 := some b4, b7 := some b7, p := some p,
                   x1 := some x1, x2 := some x2, pres := some pres, step := .g12 } ∧
        p.toInt = refP b7.toNat b4.toNat ∧ x1.toInt = refX1Out p.toInt ∧ x2.toInt = refX2Out p.toInt ∧
        pres.toInt = refPres p.toInt x1.toInt x2.toInt) ∧
      (b4.toNat = 0 → ∃ x1 x2 : W32,
        x1.toInt = S32 (ac3.toInt * b6.toInt) / 8192 ∧ x2.toInt = S32 (b1.toInt * refSquare b6.toInt) / 65536 ∧
        exec .compP s = .next
          { s with b6 := some b6, b3 := some b3, x3 := some x3, b4 := some b4, b7 := some b7, x1 := some x1,
                   x2 := some x2, status := some .div0Pres, value := none, info := some (.div0Pres b4),
                   step := .idle })

/-! ## Conditioning, commands and reads -/

/-- R221, R301: CHECK_ID passes exactly the byte 0x55 (the spec's own decision D32). -/
def Obligations.CheckIdComparesTheWholeByte : Prop :=
  (∀ s : State, latched s 0 = 0x55 → exec .checkId s = .next { s with step := nextLabel s.step }) ∧
  (∀ s : State, latched s 0 ≠ 0x55 → exec .checkId s = .next
    { s with status := some .idMismatch, value := none, info := some (.idMismatch (latched s 0)), step := .idle }) ∧
  (∀ (s : State) (id : Byte) (rest : List Byte), s.latch = id :: rest → latched s 0 = id)

/-- R222, R32, R77: UNPACK_CAL writes the eleven entries, each the big-endian pair of its place, and changes nothing
else (order, byte order and signedness are the spec's own decisions D2, D3 and D4). -/
def Obligations.UnpackCalLoadsTheElevenEntries : Prop :=
  ∀ s : State, s.latch.length = 22 →
    ∃ cal' : Cal, cal'.holds (payloadInts s.latch) ∧
      exec .unpackCal s = .next { s with cal := cal', step := nextLabel s.step }

/-- R223, R224: ASM_UT takes the first byte as the high one (the spec's own decision D4), and CLAMP gives the minimum of
the mode and 3 (D7). -/
def Obligations.AsmUtAndClampSetTheirRegisters : Prop :=
  (∀ s : State, ∃ v : Half, exec .asmUt s = .next { s with ut := some v, step := nextLabel s.step } ∧
    v.toNat = (latched s 0).toNat * 256 + (latched s 1).toNat) ∧
  (∀ s : State, ∃ o : BitVec 2, exec .clamp s = .next { s with oss := some o, step := nextLabel s.step } ∧
    o.toNat = min s.modeIn.toNat 3)

/-- R225, R36: ASM_UP, whose result has 16 + OSS significant bits (byte order: the spec's own decision D4). -/
def Obligations.AsmUpRightJustifiesTheSample : Prop :=
  ∀ (s : State) (oss : BitVec 2), s.oss = some oss →
    ∃ v : BitVec 19, exec .asmUp s = .next { s with up := some v, step := nextLabel s.step } ∧
      (v.toNat : Int) = refUp (latched s 0) (latched s 1) (latched s 2) oss.toNat ∧ v.toNat < 2 ^ (16 + oss.toNat)

/-- R228, R322: the waits of the two conversions: the wait capability is called with the listed units, and the operation
goes on when that call returns (the wait capability is the spec's parameter; that a call that hangs is the fault
`waitHangs` is log entry 6). -/
def Obligations.SelectDelayWaitsTheListedUnits : Prop :=
  (∀ s : State, callWait s.waitCap 5 = .returns → exec (.selectDelay .temperature) s = .next
    { s with trace := s.trace ++ [.wait 5], step := nextLabel s.step }) ∧
  (∀ (s : State) (oss : BitVec 2), callWait s.waitCap (refDelay oss.toNat) = .returns → s.oss = some oss →
    exec (.selectDelay .pressure) s = .next
      { s with trace := s.trace ++ [.wait (refDelay oss.toNat)], step := nextLabel s.step }) ∧
  (∀ s : State, callWait s.waitCap 5 = .hangs → exec (.selectDelay .temperature) s = .fault .waitHangs) ∧
  (∀ (s : State) (oss : BitVec 2), callWait s.waitCap (refDelay oss.toNat) = .hangs → s.oss = some oss →
    exec (.selectDelay .pressure) s = .fault .waitHangs)

/-- R101, R102, R226, R227: each command is one write of its byte to register 0xF4, and nothing in CORE but the trace
and STEP changes. -/
def Obligations.CommandsWriteTheirByte : Prop :=
  (∀ s : State, exec .startT s = .next { s with trace := s.trace ++ [.wr 0xF4 0x2E], step := nextLabel s.step }) ∧
  (∀ (s : State) (oss : BitVec 2), ∃ b : Byte, b.toNat = 0x34 + oss.toNat * 64 ∧
    exec (.startP oss) s = .next { s with trace := s.trace ++ [.wr 0xF4 b], step := nextLabel s.step })

/-- R76, R103, R229: a read whose request is answered in full latches the bytes in the order received. -/
def Obligations.FullReadsLatchTheBytes : Prop :=
  (∀ (i : Instr) (reg : Byte) (n : Nat) (s : State), readOf i = some (reg, n) → answerCount s n = n →
    exec i s = .next
      { s with latch := answerBytes s.draws n (answerScript s), rxq := [], replies := s.replies.tail,
               draws := s.draws + 1,
               trace := s.trace ++ readEvents reg (answerBytes s.draws n (answerScript s)),
               step := nextLabel s.step }) ∧
  (∀ (s : State) (a : Nat) (bs : List Byte) (rest : List Reply), s.replies = { avail := a, bytes := bs } :: rest →
    bs.length ≤ a →
    answerCount s bs.length = bs.length ∧ answerBytes s.draws bs.length (answerScript s) = bs)

/-- R76, R229, R305: a read whose request is answered short ends with E_BUS before any `readByte`, with the register,
the count asked and the count answered recorded (what the transport's queue then holds is the transport's own). -/
def Obligations.ShortReadsReportTheBus : Prop :=
  ∀ (i : Instr) (reg : Byte) (n : Nat) (s : State), readOf i = some (reg, n) → answerCount s n < n →
    ∃ q : List Byte, q.length = answerCount s n ∧ exec i s = .next
      { s with status := some .bus, value := none, info := some (.bus reg n (answerCount s n)), step := .idle,
               rxq := q, replies := s.replies.tail, draws := s.draws + 1,
               trace := s.trace ++ [.rq reg n (answerCount s n)] }

/-! ## Host operations -/

/-- R252, R254, R343: BEGIN over a transport that answers 0x55 and a full payload. -/
def Obligations.BeginLoadsTheCalibration : Prop :=
  ∀ (s : State) (a₁ a₂ : Nat) (c : List Byte) (rest : List Reply),
    s.replies = { avail := a₁, bytes := [0x55] } :: { avail := a₂, bytes := c } :: rest →
    1 ≤ a₁ → 22 ≤ a₂ → c.length = 22 →
    ∃ cal' : Cal, cal'.holds (payloadInts c) ∧ exec .beginOp s = .next
      { s with session := .ready, cal := cal', lastTValid := false, opSel := 0b00, status := some .ok, value := none,
               info := none, step := .idle, rxq := [], latch := c, replies := rest, draws := s.draws + 2,
               trace := s.trace ++ readEvents 0xD0 [0x55] ++ readEvents 0xAA c }

/-- R250, R253, R254: BEGIN always ends; with E_OK it leaves READY and no valid LAST_T, with an error it leaves UNINIT
and CAL, LAST_T and LAST_T_VALID as they were (the spec's own decisions D13 and D14). -/
def Obligations.BeginEndsReadyOrUninitialised : Prop :=
  ∀ s : State, ∃ t, exec .beginOp s = .next t ∧ t.step = .idle ∧ t.value = none ∧ t.lastT = s.lastT ∧
    ((t.status = some .ok ∧ t.session = .ready ∧ t.lastTValid = false) ∨
     ((t.status = some .idMismatch ∨ t.status = some .bus) ∧ t.session = .uninit ∧ t.cal = s.cal ∧
       t.lastTValid = s.lastTValid))

/-- R255: GET_PRESSURE in UNINIT: E_NOT_READY before any bus activity; only the ports and the recorded error change. -/
def Obligations.GetPressureNeedsReady : Prop :=
  ∀ (s : State) (m : Byte), s.session = .uninit → exec (.getPressure m) s = .next
    { s with opSel := 0b01, modeIn := m, status := some .notReady, value := none, info := some .notReady,
             step := .idle }

/-- R256, R257 with R160 to R195 and R222 to R229: a GET_PRESSURE in READY whose reads are answered in full, whose waits
return and whose divisors are not zero returns the pressure of the integer formulas, caches the temperature, and does on
the bus exactly what the listing says, with the waits of R351. Every field of the state is named: each working register
takes the rules' value, and what no statement of the listing writes is unchanged. (Spec's own decisions: D1, D2, D4, D5,
D6, D7, D9, D11, D31.) -/
def Obligations.GetPressureComputesTheFormulas : Prop :=
  ∀ (s : State) (c : CalInts) (m u0 u1 v0 v1 v2 : Byte) (a₁ a₂ : Nat) (rest : List Reply) (x1 x2 b5 tt p pres : Int),
    s.session = .ready → callWait s.waitCap 5 = .returns →
    callWait s.waitCap (refDelay (min m.toNat 3)) = .returns → s.cal.holds c →
    s.replies = { avail := a₁, bytes := [u0, u1] } :: { avail := a₂, bytes := [v0, v1, v2] } :: rest →
    2 ≤ a₁ → 3 ≤ a₂ →
    refCompT c (u0.toNat * 256 + u1.toNat) = some (x1, x2, b5, tt) →
    refCompP c b5 (refUp v0 v1 v2 (min m.toNat 3)) (min m.toNat 3) = some (p, pres) →
    ∃ t, exec (.getPressure m) s = .next t ∧
      t.status = some .ok ∧ t.value.map BitVec.toInt = some pres ∧ t.value = t.pres ∧ t.step = .idle ∧
      t.lastT.map BitVec.toInt = some tt ∧ t.lastT = t.t ∧ t.lastTValid = true ∧
      t.b5.map BitVec.toInt = some b5 ∧ t.p.map BitVec.toInt = some p ∧
      t.ut.map BitVec.toNat = some (u0.toNat * 256 + u1.toNat) ∧
      t.up.map (fun u => (u.toNat : Int)) = some (refUp v0 v1 v2 (min m.toNat 3)) ∧
      t.oss.map BitVec.toNat = some (min m.toNat 3) ∧
      (∃ cmd : Byte, cmd.toNat = 0x34 + min m.toNat 3 * 64 ∧
        t.trace = s.trace ++ [.wr 0xF4 0x2E, .wait 5] ++ readEvents 0xF6 [u0, u1] ++
          [.wr 0xF4 cmd, .wait (refDelay (min m.toNat 3))] ++ readEvents 0xF6 [v0, v1, v2]) ∧
      t.b6.map BitVec.toInt = some (refB6 b5) ∧
      t.b3.map BitVec.toInt = some (refB3 c.ac1 (refX3Low c.ac2 c.b2 (refB6 b5)) (min m.toNat 3)) ∧
      t.x3.map BitVec.toInt = some (refX3High c.ac3 c.b1 (refB6 b5)) ∧
      t.b4.map (fun w => (w.toNat : Int)) = some (refCompB4 c b5) ∧
      t.b7.map (fun w => (w.toNat : Int)) =
        some (refCompB7 c b5 (refUp v0 v1 v2 (min m.toNat 3)) (min m.toNat 3)) ∧
      t.x1.map BitVec.toInt = some (refX1Out p) ∧ t.x2.map BitVec.toInt = some (refX2Out p) ∧
      t.opSel = 0b01 ∧ t.modeIn = m ∧ t.info = none ∧ t.rxq = [] ∧ t.latch = [v0, v1, v2] ∧ t.draws = s.draws + 2 ∧
      t.replies = rest ∧ t.session = s.session ∧ t.cal = s.cal ∧ t.hostQ = s.hostQ ∧ t.waitCap = s.waitCap ∧
      t.grain = s.grain

/-- R256, R258, R303, R304, R347: with the same answers, a zero divisor of T2 ends the operation with E_DIV0_TEMP before
the pressure command is written, and a zero B4 ends it with E_DIV0_PRES after the whole bus traffic, which is that of
`GetPressureComputesTheFormulas`; the cached temperature stays (the spec's own decisions D8, D9 and D11). -/
def Obligations.GetPressureReportsZeroDivisors : Prop :=
  ∀ (s : State) (c : CalInts) (m u0 u1 v0 v1 v2 : Byte) (a₁ a₂ : Nat) (rest : List Reply),
    s.session = .ready → callWait s.waitCap 5 = .returns → s.cal.holds c →
    s.replies = { avail := a₁, bytes := [u0, u1] } :: { avail := a₂, bytes := [v0, v1, v2] } :: rest →
    2 ≤ a₁ → 3 ≤ a₂ →
    (refCompT c (u0.toNat * 256 + u1.toNat) = none →
      ∃ t, exec (.getPressure m) s = .next t ∧ t.status = some .div0Temp ∧ t.value = none ∧ t.lastT = s.lastT ∧
        t.lastTValid = s.lastTValid ∧
        t.trace = s.trace ++ [.wr 0xF4 0x2E, .wait 5] ++ readEvents 0xF6 [u0, u1]) ∧
    (∀ x1 x2 b5 tt, callWait s.waitCap (refDelay (min m.toNat 3)) = .returns →
      refCompT c (u0.toNat * 256 + u1.toNat) = some (x1, x2, b5, tt) →
      refCompP c b5 (refUp v0 v1 v2 (min m.toNat 3)) (min m.toNat 3) = none →
      ∃ t, exec (.getPressure m) s = .next t ∧ t.status = some .div0Pres ∧ t.value = none ∧ t.lastT = s.lastT ∧
        t.lastTValid = s.lastTValid ∧
        ∃ cmd : Byte, cmd.toNat = 0x34 + min m.toNat 3 * 64 ∧
          t.trace = s.trace ++ [.wr 0xF4 0x2E, .wait 5] ++ readEvents 0xF6 [u0, u1] ++
            [.wr 0xF4 cmd, .wait (refDelay (min m.toNat 3))] ++ readEvents 0xF6 [v0, v1, v2])

/-- R257, R258: however a GET_PRESSURE ends, SESSION and CAL are as before; with E_OK the cache and VALUE are T and PRES
of this operation, with an error the cache is as before and VALUE holds no value, so that the host's read of it is the
fault R307 names (the spec's own decision D11). -/
def Obligations.GetPressureCommitsOnlyOnSuccess : Prop :=
  ∀ (s t : State) (m : Byte), exec (.getPressure m) s = .next t →
    t.step = .idle ∧ t.session = s.session ∧ t.cal = s.cal ∧
    ((t.status = some .ok ∧ t.info = none ∧ t.lastT = t.t ∧ t.lastTValid = true ∧ t.value = t.pres ∧
        s.session = .ready) ∨
     ((t.status = some .notReady ∨ t.status = some .bus ∨ t.status = some .div0Temp ∨ t.status = some .div0Pres) ∧
        t.lastT = s.lastT ∧ t.lastTValid = s.lastTValid ∧ readValue t = .error (.unwritten .value)))

/-- R259, R302: GET_LAST_TEMPERATURE in UNINIT, in READY before any reading (the sentinel −32768: the spec's own decision
D13) and after one; no bus activity. -/
def Obligations.GetLastTemperatureAnswers : Prop :=
  (∀ s : State, s.session = .uninit → exec .getLastTemperature s = .next
    { s with opSel := 0b10, status := some .notReady, value := none, info := some .notReady, step := .idle }) ∧
  (∀ s : State, s.session = .ready → s.lastTValid = false → exec .getLastTemperature s = .next
    { s with opSel := 0b10, status := some .ok, value := some (-32768), info := none, step := .idle }) ∧
  (∀ (s : State) (t : W32), s.session = .ready → s.lastTValid = true → s.lastT = some t →
    exec .getLastTemperature s = .next
      { s with opSel := 0b10, status := some .ok, value := some t, info := none, step := .idle })

/-- R105: the reserved selector is refused, as an operation and as a step (the spec's own decision D25). -/
def Obligations.ReservedSelectorIsRefused : Prop :=
  (∀ s : State, exec .reservedHost s = .refused .reservedSelector) ∧
  (∀ s : State, s.presents 0b11 → step s = .refused .reservedSelector)

/-- R300, R14: the numbers of the six status codes, all different, none of them 6 or 7. -/
def Obligations.StatusCodesAreTheListed : Prop :=
  Status.ok.code = 0 ∧ Status.idMismatch.code = 1 ∧ Status.notReady.code = 2 ∧ Status.div0Temp.code = 3 ∧
  Status.div0Pres.code = 4 ∧ Status.bus.code = 5 ∧ (∀ a b : Status, a.code = b.code → a = b) ∧
  (∀ a : Status, a.code.toNat ≤ 5)

/-- R45, R307 (1), R308: after an error, or after a `return`, CORE is idle and the host may issue the next operation: the
state a host operation ends in accepts the next presented one. The host's read of STATUS then gives its code, and its
read of VALUE gives a value exactly when the code is E_OK and the operation is not BEGIN (the spec's own decision D9). -/
def Obligations.HostOperationsEndIdle : Prop :=
  ∀ (i : Instr) (s t : State), isHostOp i = true → exec i s = .next t →
    t.step = .idle ∧ t.status ≠ none ∧
    (∀ r rest, t.hostQ = r :: rest → fetch t = .code (.host r.opSel r.modeIn)) ∧
    ∃ st, readStatus t = .ok st ∧ ((∃ v, readValue t = .ok v) ↔ st = .ok ∧ i ≠ .beginOp)

/-- R309: a host operation that meets an uninitialised session, a short read, a wrong identity or a zero divisor ends
with the matching status; and one that ends with E_OK has made each of its tests: the session, both full reads and the
identity byte of BEGIN, both full reads, the divisor of T2 and the divisor B4 of GET_PRESSURE. -/
def Obligations.NoSilentFailure : Prop :=
  ∀ (i : Instr) (s t : State), isHostOp i = true → exec i s = .next t →
    (i ≠ .beginOp → s.session = .uninit → t.status = some .notReady) ∧
    ∃ es, t.trace = s.trace ++ es ∧
      (∀ reg n a, .rq reg n a ∈ es → a < n → t.status = some .bus) ∧
      (∀ b es', i = .beginOp → es = .rq 0xD0 1 1 :: .rd b :: es' → b ≠ 0x55 → t.status = some .idMismatch) ∧
      (∀ m (ut ac5 ac6 md : Half), i = .getPressure m → .rq 0xF6 2 2 ∈ es → t.ut = some ut →
        t.cal.ac5 = some ac5 → t.cal.ac6 = some ac6 → t.cal.md = some md →
        refD (refX1 ut.toNat ac5.toNat ac6.toNat) md.toInt = 0 → t.status = some .div0Temp) ∧
      (∀ m, i = .getPressure m → .rq 0xF6 3 3 ∈ es → t.b4 = some 0 → t.status = some .div0Pres) ∧
      (t.status = some .ok → (i ≠ .beginOp → s.session = .ready) ∧
        (i = .beginOp → ∃ es', es = .rq 0xD0 1 1 :: .rd 0x55 :: .rq 0xAA 22 22 :: es') ∧
        (∀ m, i = .getPressure m → .rq 0xF6 2 2 ∈ es ∧ .rq 0xF6 3 3 ∈ es ∧
          (∃ ut ac5 ac6 md : Half, t.ut = some ut ∧ t.cal.ac5 = some ac5 ∧ t.cal.ac6 = some ac6 ∧
            t.cal.md = some md ∧ refD (refX1 ut.toNat ac5.toNat ac6.toNat) md.toInt ≠ 0) ∧
          ∃ b4, t.b4 = some b4 ∧ b4 ≠ 0))

/-! ## Whole-machine rules -/

/-- R31, R312: only BEGIN changes SESSION. -/
def Obligations.OnlyBeginChangesTheSession : Prop :=
  ∀ s t : State, step s = .next t → t.session ≠ s.session →
    s.step = .b1 ∨ s.step = .b6 ∨ s.presents 0b00

/-- R32, R254 (CAL), R42, R257 (LAST_T and its flag): CAL is written by UNPACK_CAL of BEGIN alone, LAST_T by the commit
of a GET_PRESSURE alone, and LAST_T_VALID by that commit, which sets it, and by a successful BEGIN, which clears it. -/
def Obligations.OnlyTheirStepsWriteCalAndLastT : Prop :=
  ∀ s t : State, step s = .next t →
    (t.cal ≠ s.cal → s.step = .b5 ∨ s.presents 0b00) ∧
    (t.lastT ≠ s.lastT → (s.step = .g12 ∨ s.presents 0b01) ∧ t.status = some .ok) ∧
    (t.lastTValid ≠ s.lastTValid → t.status = some .ok ∧
      ((t.lastTValid = true ∧ (s.step = .g12 ∨ s.presents 0b01)) ∨
       (t.lastTValid = false ∧ (s.step = .b6 ∨ s.presents 0b00))))

/-- R72, R80, R109, R228: whatever the state, a step puts nothing on the bus but the five command bytes to 0xF4 and the
four reads, waits only the listed units, and never calls `selectRegister`; and the trace only grows. -/
def Obligations.EveryStepKeepsTheBusLegal : Prop :=
  ∀ s t : State, step s = .next t →
    ∃ es, t.trace = s.trace ++ es ∧ ∀ e ∈ es, legalEvent e = true

/-- R224, §8 ("passing mode=7 behaves identically to mode=3"): every mode above 3 gives the outcome of mode 3, but for
the MODE_IN port the host wrote. -/
def Obligations.HighModesActAsMode3 : Prop :=
  ∀ (s : State) (m : Byte), 3 ≤ m.toNat →
    (∀ t, exec (.getPressure m) s = .next t → exec (.getPressure 3) s = .next { t with modeIn := 3 }) ∧
    (∀ r, exec (.getPressure m) s = .fault r ↔ exec (.getPressure 3) s = .fault r)

/-- R34, R37, R40, R258, R260: the result of a GET_PRESSURE does not depend on MB, nor on what an earlier operation left
in UT, UP, OSS, B5, the working registers, the receive queue or the latch (where B5 lives and what an abort leaves are
the spec's own decision D11). -/
def Obligations.GetPressureIgnoresStaleRegistersAndMB : Prop :=
  ∀ (s s' t : State) (m : Byte), s.sameInputs s' → exec (.getPressure m) s = .next t →
    ∃ t', exec (.getPressure m) s' = .next t' ∧ t.sameResults t'

/-- R44, R83, R251, R322 (the spec's own decisions D17 and D19): a host operation run as one step is its listing run one
statement a step, from its first label to the end; so is a presented operation that is taken one statement a step, within
one step more, the one that starts it; each wait is then a step of its own, which called the wait capability with its
argument and got it back; and no step changes the grain. (The grain is the model's choice, log entry 7.) -/
def Obligations.HostOperationsAreTheirListings : Prop :=
  (∀ s : State, ∃ k ≤ 6, Sys2Proof.core.run k (present 0b00 s.modeIn .b1 s) = exec .beginOp s) ∧
  (∀ (s : State) (m : Byte), ∃ k ≤ 13, Sys2Proof.core.run k (present 0b01 m .g0 s) = exec (.getPressure m) s) ∧
  (∀ s : State, ∃ k ≤ 3, Sys2Proof.core.run k (present 0b10 s.modeIn .l0 s) = exec .getLastTemperature s) ∧
  (∀ (s : State) r rest, s.step = .idle → s.hostQ = r :: rest → s.grain = .statement →
    (r.opSel = 0b00 → ∃ k ≤ 7, Sys2Proof.core.run k s = exec .beginOp (accept s)) ∧
    (r.opSel = 0b01 → ∃ k ≤ 14, Sys2Proof.core.run k s = exec (.getPressure r.modeIn) (accept s)) ∧
    (r.opSel = 0b10 → ∃ k ≤ 4, Sys2Proof.core.run k s = exec .getLastTemperature (accept s))) ∧
  (∀ s t : State, s.grain = .statement → step s = .next t →
    ∃ es, t.trace = s.trace ++ es ∧ ∀ n, .wait n ∈ es → es = [.wait n] ∧ callWait s.waitCap n = .returns) ∧
  (∀ s t : State, step s = .next t → t.grain = s.grain)

/-- R44, R160, R180: COMP_T and COMP_P run as one step are their sub-steps run one a step, T1 to T4 and P1 to P15. -/
def Obligations.PassesAreTheirSubSteps : Prop :=
  (∀ s : State, ∃ k ≤ 4, Sys2Proof.core.run k (enter .t1 s) = exec .compT s) ∧
  (∀ s : State, ∃ k ≤ 15, Sys2Proof.core.run k (enter .p1 s) = exec .compP s)
end

