-- ==== Sys2Proof/Laws/State.lean ====
section
/-! SUPPORT. One lemma per field of State and named update (Machine/Ops.lean), each true by rfl, so that no proof unfolds
a record update. -/

namespace Sys2Proof.Machine

variable (s : State)

/-! ### the sequencer's advance (R44) writes STEP alone -/

@[simp] theorem advance_session : (advance s).session = s.session := rfl
@[simp] theorem advance_cal : (advance s).cal = s.cal := rfl
@[simp] theorem advance_ut : (advance s).ut = s.ut := rfl
@[simp] theorem advance_up : (advance s).up = s.up := rfl
@[simp] theorem advance_oss : (advance s).oss = s.oss := rfl
@[simp] theorem advance_b5 : (advance s).b5 = s.b5 := rfl
@[simp] theorem advance_x1 : (advance s).x1 = s.x1 := rfl
@[simp] theorem advance_x2 : (advance s).x2 = s.x2 := rfl
@[simp] theorem advance_x3 : (advance s).x3 = s.x3 := rfl
@[simp] theorem advance_t : (advance s).t = s.t := rfl
@[simp] theorem advance_b3 : (advance s).b3 = s.b3 := rfl
@[simp] theorem advance_b4 : (advance s).b4 = s.b4 := rfl
@[simp] theorem advance_b6 : (advance s).b6 = s.b6 := rfl
@[simp] theorem advance_b7 : (advance s).b7 = s.b7 := rfl
@[simp] theorem advance_p : (advance s).p = s.p := rfl
@[simp] theorem advance_pres : (advance s).pres = s.pres := rfl
@[simp] theorem advance_lastT : (advance s).lastT = s.lastT := rfl
@[simp] theorem advance_lastTValid : (advance s).lastTValid = s.lastTValid := rfl
@[simp] theorem advance_step : (advance s).step = nextLabel s.step := rfl
@[simp] theorem advance_opSel : (advance s).opSel = s.opSel := rfl
@[simp] theorem advance_modeIn : (advance s).modeIn = s.modeIn := rfl
@[simp] theorem advance_status : (advance s).status = s.status := rfl
@[simp] theorem advance_value : (advance s).value = s.value := rfl
@[simp] theorem advance_info : (advance s).info = s.info := rfl
@[simp] theorem advance_rxq : (advance s).rxq = s.rxq := rfl
@[simp] theorem advance_latch : (advance s).latch = s.latch := rfl
@[simp] theorem advance_hostQ : (advance s).hostQ = s.hostQ := rfl
@[simp] theorem advance_replies : (advance s).replies = s.replies := rfl
@[simp] theorem advance_draws : (advance s).draws = s.draws := rfl
@[simp] theorem advance_waitCap : (advance s).waitCap = s.waitCap := rfl
@[simp] theorem advance_grain : (advance s).grain = s.grain := rfl
@[simp] theorem advance_trace : (advance s).trace = s.trace := rfl

/-! ### entering a listing (R44) writes STEP alone -/

@[simp] theorem enter_session (l : Label) : (enter l s).session = s.session := rfl
@[simp] theorem enter_cal (l : Label) : (enter l s).cal = s.cal := rfl
@[simp] theorem enter_ut (l : Label) : (enter l s).ut = s.ut := rfl
@[simp] theorem enter_up (l : Label) : (enter l s).up = s.up := rfl
@[simp] theorem enter_oss (l : Label) : (enter l s).oss = s.oss := rfl
@[simp] theorem enter_b5 (l : Label) : (enter l s).b5 = s.b5 := rfl
@[simp] theorem enter_x1 (l : Label) : (enter l s).x1 = s.x1 := rfl
@[simp] theorem enter_x2 (l : Label) : (enter l s).x2 = s.x2 := rfl
@[simp] theorem enter_x3 (l : Label) : (enter l s).x3 = s.x3 := rfl
@[simp] theorem enter_t (l : Label) : (enter l s).t = s.t := rfl
@[simp] theorem enter_b3 (l : Label) : (enter l s).b3 = s.b3 := rfl
@[simp] theorem enter_b4 (l : Label) : (enter l s).b4 = s.b4 := rfl
@[simp] theorem enter_b6 (l : Label) : (enter l s).b6 = s.b6 := rfl
@[simp] theorem enter_b7 (l : Label) : (enter l s).b7 = s.b7 := rfl
@[simp] theorem enter_p (l : Label) : (enter l s).p = s.p := rfl
@[simp] theorem enter_pres (l : Label) : (enter l s).pres = s.pres := rfl
@[simp] theorem enter_lastT (l : Label) : (enter l s).lastT = s.lastT := rfl
@[simp] theorem enter_lastTValid (l : Label) : (enter l s).lastTValid = s.lastTValid := rfl
@[simp] theorem enter_step (l : Label) : (enter l s).step = l := rfl
@[simp] theorem enter_opSel (l : Label) : (enter l s).opSel = s.opSel := rfl
@[simp] theorem enter_modeIn (l : Label) : (enter l s).modeIn = s.modeIn := rfl
@[simp] theorem enter_status (l : Label) : (enter l s).status = s.status := rfl
@[simp] theorem enter_value (l : Label) : (enter l s).value = s.value := rfl
@[simp] theorem enter_info (l : Label) : (enter l s).info = s.info := rfl
@[simp] theorem enter_rxq (l : Label) : (enter l s).rxq = s.rxq := rfl
@[simp] theorem enter_latch (l : Label) : (enter l s).latch = s.latch := rfl
@[simp] theorem enter_hostQ (l : Label) : (enter l s).hostQ = s.hostQ := rfl
@[simp] theorem enter_replies (l : Label) : (enter l s).replies = s.replies := rfl
@[simp] theorem enter_draws (l : Label) : (enter l s).draws = s.draws := rfl
@[simp] theorem enter_waitCap (l : Label) : (enter l s).waitCap = s.waitCap := rfl
@[simp] theorem enter_grain (l : Label) : (enter l s).grain = s.grain := rfl
@[simp] theorem enter_trace (l : Label) : (enter l s).trace = s.trace := rfl

/-! ### the host's presentation (R45) writes the two ports and STEP -/

@[simp] theorem present_session (o : BitVec 2) (m : Byte) (l : Label) : (present o m l s).session = s.session := rfl
@[simp] theorem present_cal (o : BitVec 2) (m : Byte) (l : Label) : (present o m l s).cal = s.cal := rfl
@[simp] theorem present_ut (o : BitVec 2) (m : Byte) (l : Label) : (present o m l s).ut = s.ut := rfl
@[simp] theorem present_up (o : BitVec 2) (m : Byte) (l : Label) : (present o m l s).up = s.up := rfl
@[simp] theorem present_oss (o : BitVec 2) (m : Byte) (l : Label) : (present o m l s).oss = s.oss := rfl
@[simp] theorem present_b5 (o : BitVec 2) (m : Byte) (l : Label) : (present o m l s).b5 = s.b5 := rfl
@[simp] theorem present_x1 (o : BitVec 2) (m : Byte) (l : Label) : (present o m l s).x1 = s.x1 := rfl
@[simp] theorem present_x2 (o : BitVec 2) (m : Byte) (l : Label) : (present o m l s).x2 = s.x2 := rfl
@[simp] theorem present_x3 (o : BitVec 2) (m : Byte) (l : Label) : (present o m l s).x3 = s.x3 := rfl
@[simp] theorem present_t (o : BitVec 2) (m : Byte) (l : Label) : (present o m l s).t = s.t := rfl
@[simp] theorem present_b3 (o : BitVec 2) (m : Byte) (l : Label) : (present o m l s).b3 = s.b3 := rfl
@[simp] theorem present_b4 (o : BitVec 2) (m : Byte) (l : Label) : (present o m l s).b4 = s.b4 := rfl
@[simp] theorem present_b6 (o : BitVec 2) (m : Byte) (l : Label) : (present o m l s).b6 = s.b6 := rfl
@[simp] theorem present_b7 (o : BitVec 2) (m : Byte) (l : Label) : (present o m l s).b7 = s.b7 := rfl
@[simp] theorem present_p (o : BitVec 2) (m : Byte) (l : Label) : (present o m l s).p = s.p := rfl
@[simp] theorem present_pres (o : BitVec 2) (m : Byte) (l : Label) : (present o m l s).pres = s.pres := rfl
@[simp] theorem present_lastT (o : BitVec 2) (m : Byte) (l : Label) : (present o m l s).lastT = s.lastT := rfl
@[simp] theorem present_lastTValid (o : BitVec 2) (m : Byte) (l : Label) : (present o m l s).lastTValid = s.lastTValid := rfl
@[simp] theorem present_step (o : BitVec 2) (m : Byte) (l : Label) : (present o m l s).step = l := rfl
@[simp] theorem present_opSel (o : BitVec 2) (m : Byte) (l : Label) : (present o m l s).opSel = o := rfl
@[simp] theorem present_modeIn (o : BitVec 2) (m : Byte) (l : Label) : (present o m l s).modeIn = m := rfl
@[simp] theorem present_status (o : BitVec 2) (m : Byte) (l : Label) : (present o m l s).status = s.status := rfl
@[simp] theorem present_value (o : BitVec 2) (m : Byte) (l : Label) : (present o m l s).value = s.value := rfl
@[simp] theorem present_info (o : BitVec 2) (m : Byte) (l : Label) : (present o m l s).info = s.info := rfl
@[simp] theorem present_rxq (o : BitVec 2) (m : Byte) (l : Label) : (present o m l s).rxq = s.rxq := rfl
@[simp] theorem present_latch (o : BitVec 2) (m : Byte) (l : Label) : (present o m l s).latch = s.latch := rfl
@[simp] theorem present_hostQ (o : BitVec 2) (m : Byte) (l : Label) : (present o m l s).hostQ = s.hostQ := rfl
@[simp] theorem present_replies (o : BitVec 2) (m : Byte) (l : Label) : (present o m l s).replies = s.replies := rfl
@[simp] theorem present_draws (o : BitVec 2) (m : Byte) (l : Label) : (present o m l s).draws = s.draws := rfl
@[simp] theorem present_waitCap (o : BitVec 2) (m : Byte) (l : Label) : (present o m l s).waitCap = s.waitCap := rfl
@[simp] theorem present_grain (o : BitVec 2) (m : Byte) (l : Label) : (present o m l s).grain = s.grain := rfl
@[simp] theorem present_trace (o : BitVec 2) (m : Byte) (l : Label) : (present o m l s).trace = s.trace := rfl

/-! ### error entry (R307) writes STATUS, VALUE, the recorded info and STEP -/

@[simp] theorem raise_session (e : Err) : (raise e s).session = s.session := rfl
@[simp] theorem raise_cal (e : Err) : (raise e s).cal = s.cal := rfl
@[simp] theorem raise_ut (e : Err) : (raise e s).ut = s.ut := rfl
@[simp] theorem raise_up (e : Err) : (raise e s).up = s.up := rfl
@[simp] theorem raise_oss (e : Err) : (raise e s).oss = s.oss := rfl
@[simp] theorem raise_b5 (e : Err) : (raise e s).b5 = s.b5 := rfl
@[simp] theorem raise_x1 (e : Err) : (raise e s).x1 = s.x1 := rfl
@[simp] theorem raise_x2 (e : Err) : (raise e s).x2 = s.x2 := rfl
@[simp] theorem raise_x3 (e : Err) : (raise e s).x3 = s.x3 := rfl
@[simp] theorem raise_t (e : Err) : (raise e s).t = s.t := rfl
@[simp] theorem raise_b3 (e : Err) : (raise e s).b3 = s.b3 := rfl
@[simp] theorem raise_b4 (e : Err) : (raise e s).b4 = s.b4 := rfl
@[simp] theorem raise_b6 (e : Err) : (raise e s).b6 = s.b6 := rfl
@[simp] theorem raise_b7 (e : Err) : (raise e s).b7 = s.b7 := rfl
@[simp] theorem raise_p (e : Err) : (raise e s).p = s.p := rfl
@[simp] theorem raise_pres (e : Err) : (raise e s).pres = s.pres := rfl
@[simp] theorem raise_lastT (e : Err) : (raise e s).lastT = s.lastT := rfl
@[simp] theorem raise_lastTValid (e : Err) : (raise e s).lastTValid = s.lastTValid := rfl
@[simp] theorem raise_step (e : Err) : (raise e s).step = .idle := rfl
@[simp] theorem raise_opSel (e : Err) : (raise e s).opSel = s.opSel := rfl
@[simp] theorem raise_modeIn (e : Err) : (raise e s).modeIn = s.modeIn := rfl
@[simp] theorem raise_status (e : Err) : (raise e s).status = some e.status := rfl
@[simp] theorem raise_value (e : Err) : (raise e s).value = none := rfl
@[simp] theorem raise_info (e : Err) : (raise e s).info = some e := rfl
@[simp] theorem raise_rxq (e : Err) : (raise e s).rxq = s.rxq := rfl
@[simp] theorem raise_latch (e : Err) : (raise e s).latch = s.latch := rfl
@[simp] theorem raise_hostQ (e : Err) : (raise e s).hostQ = s.hostQ := rfl
@[simp] theorem raise_replies (e : Err) : (raise e s).replies = s.replies := rfl
@[simp] theorem raise_draws (e : Err) : (raise e s).draws = s.draws := rfl
@[simp] theorem raise_waitCap (e : Err) : (raise e s).waitCap = s.waitCap := rfl
@[simp] theorem raise_grain (e : Err) : (raise e s).grain = s.grain := rfl
@[simp] theorem raise_trace (e : Err) : (raise e s).trace = s.trace := rfl

/-! ### the end without an error (R308) writes STATUS, VALUE, the recorded info and STEP -/

@[simp] theorem finish_session (v : Option W32) : (finish v s).session = s.session := rfl
@[simp] theorem finish_cal (v : Option W32) : (finish v s).cal = s.cal := rfl
@[simp] theorem finish_ut (v : Option W32) : (finish v s).ut = s.ut := rfl
@[simp] theorem finish_up (v : Option W32) : (finish v s).up = s.up := rfl
@[simp] theorem finish_oss (v : Option W32) : (finish v s).oss = s.oss := rfl
@[simp] theorem finish_b5 (v : Option W32) : (finish v s).b5 = s.b5 := rfl
@[simp] theorem finish_x1 (v : Option W32) : (finish v s).x1 = s.x1 := rfl
@[simp] theorem finish_x2 (v : Option W32) : (finish v s).x2 = s.x2 := rfl
@[simp] theorem finish_x3 (v : Option W32) : (finish v s).x3 = s.x3 := rfl
@[simp] theorem finish_t (v : Option W32) : (finish v s).t = s.t := rfl
@[simp] theorem finish_b3 (v : Option W32) : (finish v s).b3 = s.b3 := rfl
@[simp] theorem finish_b4 (v : Option W32) : (finish v s).b4 = s.b4 := rfl
@[simp] theorem finish_b6 (v : Option W32) : (finish v s).b6 = s.b6 := rfl
@[simp] theorem finish_b7 (v : Option W32) : (finish v s).b7 = s.b7 := rfl
@[simp] theorem finish_p (v : Option W32) : (finish v s).p = s.p := rfl
@[simp] theorem finish_pres (v : Option W32) : (finish v s).pres = s.pres := rfl
@[simp] theorem finish_lastT (v : Option W32) : (finish v s).lastT = s.lastT := rfl
@[simp] theorem finish_lastTValid (v : Option W32) : (finish v s).lastTValid = s.lastTValid := rfl
@[simp] theorem finish_step (v : Option W32) : (finish v s).step = .idle := rfl
@[simp] theorem finish_opSel (v : Option W32) : (finish v s).opSel = s.opSel := rfl
@[simp] theorem finish_modeIn (v : Option W32) : (finish v s).modeIn = s.modeIn := rfl
@[simp] theorem finish_status (v : Option W32) : (finish v s).status = some .ok := rfl
@[simp] theorem finish_value (v : Option W32) : (finish v s).value = v := rfl
@[simp] theorem finish_info (v : Option W32) : (finish v s).info = none := rfl
@[simp] theorem finish_rxq (v : Option W32) : (finish v s).rxq = s.rxq := rfl
@[simp] theorem finish_latch (v : Option W32) : (finish v s).latch = s.latch := rfl
@[simp] theorem finish_hostQ (v : Option W32) : (finish v s).hostQ = s.hostQ := rfl
@[simp] theorem finish_replies (v : Option W32) : (finish v s).replies = s.replies := rfl
@[simp] theorem finish_draws (v : Option W32) : (finish v s).draws = s.draws := rfl
@[simp] theorem finish_waitCap (v : Option W32) : (finish v s).waitCap = s.waitCap := rfl
@[simp] theorem finish_grain (v : Option W32) : (finish v s).grain = s.grain := rfl
@[simp] theorem finish_trace (v : Option W32) : (finish v s).trace = s.trace := rfl

/-! ### recording (R111) writes the trace alone -/

@[simp] theorem record_session (e : Event) : (record e s).session = s.session := rfl
@[simp] theorem record_cal (e : Event) : (record e s).cal = s.cal := rfl
@[simp] theorem record_ut (e : Event) : (record e s).ut = s.ut := rfl
@[simp] theorem record_up (e : Event) : (record e s).up = s.up := rfl
@[simp] theorem record_oss (e : Event) : (record e s).oss = s.oss := rfl
@[simp] theorem record_b5 (e : Event) : (record e s).b5 = s.b5 := rfl
@[simp] theorem record_x1 (e : Event) : (record e s).x1 = s.x1 := rfl
@[simp] theorem record_x2 (e : Event) : (record e s).x2 = s.x2 := rfl
@[simp] theorem record_x3 (e : Event) : (record e s).x3 = s.x3 := rfl
@[simp] theorem record_t (e : Event) : (record e s).t = s.t := rfl
@[simp] theorem record_b3 (e : Event) : (record e s).b3 = s.b3 := rfl
@[simp] theorem record_b4 (e : Event) : (record e s).b4 = s.b4 := rfl
@[simp] theorem record_b6 (e : Event) : (record e s).b6 = s.b6 := rfl
@[simp] theorem record_b7 (e : Event) : (record e s).b7 = s.b7 := rfl
@[simp] theorem record_p (e : Event) : (record e s).p = s.p := rfl
@[simp] theorem record_pres (e : Event) : (record e s).pres = s.pres := rfl
@[simp] theorem record_lastT (e : Event) : (record e s).lastT = s.lastT := rfl
@[simp] theorem record_lastTValid (e : Event) : (record e s).lastTValid = s.lastTValid := rfl
@[simp] theorem record_step (e : Event) : (record e s).step = s.step := rfl
@[simp] theorem record_opSel (e : Event) : (record e s).opSel = s.opSel := rfl
@[simp] theorem record_modeIn (e : Event) : (record e s).modeIn = s.modeIn := rfl
@[simp] theorem record_status (e : Event) : (record e s).status = s.status := rfl
@[simp] theorem record_value (e : Event) : (record e s).value = s.value := rfl
@[simp] theorem record_info (e : Event) : (record e s).info = s.info := rfl
@[simp] theorem record_rxq (e : Event) : (record e s).rxq = s.rxq := rfl
@[simp] theorem record_latch (e : Event) : (record e s).latch = s.latch := rfl
@[simp] theorem record_hostQ (e : Event) : (record e s).hostQ = s.hostQ := rfl
@[simp] theorem record_replies (e : Event) : (record e s).replies = s.replies := rfl
@[simp] theorem record_draws (e : Event) : (record e s).draws = s.draws := rfl
@[simp] theorem record_waitCap (e : Event) : (record e s).waitCap = s.waitCap := rfl
@[simp] theorem record_grain (e : Event) : (record e s).grain = s.grain := rfl
@[simp] theorem record_trace (e : Event) : (record e s).trace = s.trace ++ [e] := rfl

/-! ### writeRegister (R73) writes the trace alone -/

@[simp] theorem busWrite_session (r b : Byte) : (busWrite r b s).session = s.session := rfl
@[simp] theorem busWrite_cal (r b : Byte) : (busWrite r b s).cal = s.cal := rfl
@[simp] theorem busWrite_ut (r b : Byte) : (busWrite r b s).ut = s.ut := rfl
@[simp] theorem busWrite_up (r b : Byte) : (busWrite r b s).up = s.up := rfl
@[simp] theorem busWrite_oss (r b : Byte) : (busWrite r b s).oss = s.oss := rfl
@[simp] theorem busWrite_b5 (r b : Byte) : (busWrite r b s).b5 = s.b5 := rfl
@[simp] theorem busWrite_x1 (r b : Byte) : (busWrite r b s).x1 = s.x1 := rfl
@[simp] theorem busWrite_x2 (r b : Byte) : (busWrite r b s).x2 = s.x2 := rfl
@[simp] theorem busWrite_x3 (r b : Byte) : (busWrite r b s).x3 = s.x3 := rfl
@[simp] theorem busWrite_t (r b : Byte) : (busWrite r b s).t = s.t := rfl
@[simp] theorem busWrite_b3 (r b : Byte) : (busWrite r b s).b3 = s.b3 := rfl
@[simp] theorem busWrite_b4 (r b : Byte) : (busWrite r b s).b4 = s.b4 := rfl
@[simp] theorem busWrite_b6 (r b : Byte) : (busWrite r b s).b6 = s.b6 := rfl
@[simp] theorem busWrite_b7 (r b : Byte) : (busWrite r b s).b7 = s.b7 := rfl
@[simp] theorem busWrite_p (r b : Byte) : (busWrite r b s).p = s.p := rfl
@[simp] theorem busWrite_pres (r b : Byte) : (busWrite r b s).pres = s.pres := rfl
@[simp] theorem busWrite_lastT (r b : Byte) : (busWrite r b s).lastT = s.lastT := rfl
@[simp] theorem busWrite_lastTValid (r b : Byte) : (busWrite r b s).lastTValid = s.lastTValid := rfl
@[simp] theorem busWrite_step (r b : Byte) : (busWrite r b s).step = s.step := rfl
@[simp] theorem busWrite_opSel (r b : Byte) : (busWrite r b s).opSel = s.opSel := rfl
@[simp] theorem busWrite_modeIn (r b : Byte) : (busWrite r b s).modeIn = s.modeIn := rfl
@[simp] theorem busWrite_status (r b : Byte) : (busWrite r b s).status = s.status := rfl
@[simp] theorem busWrite_value (r b : Byte) : (busWrite r b s).value = s.value := rfl
@[simp] theorem busWrite_info (r b : Byte) : (busWrite r b s).info = s.info := rfl
@[simp] theorem busWrite_rxq (r b : Byte) : (busWrite r b s).rxq = s.rxq := rfl
@[simp] theorem busWrite_latch (r b : Byte) : (busWrite r b s).latch = s.latch := rfl
@[simp] theorem busWrite_hostQ (r b : Byte) : (busWrite r b s).hostQ = s.hostQ := rfl
@[simp] theorem busWrite_replies (r b : Byte) : (busWrite r b s).replies = s.replies := rfl
@[simp] theorem busWrite_draws (r b : Byte) : (busWrite r b s).draws = s.draws := rfl
@[simp] theorem busWrite_waitCap (r b : Byte) : (busWrite r b s).waitCap = s.waitCap := rfl
@[simp] theorem busWrite_grain (r b : Byte) : (busWrite r b s).grain = s.grain := rfl
@[simp] theorem busWrite_trace (r b : Byte) : (busWrite r b s).trace = s.trace ++ [.wr r b] := rfl

/-! ### selectRegister (R72) writes the trace alone -/

@[simp] theorem selectRegister_session (r : Byte) : (selectRegister r s).session = s.session := rfl
@[simp] theorem selectRegister_cal (r : Byte) : (selectRegister r s).cal = s.cal := rfl
@[simp] theorem selectRegister_ut (r : Byte) : (selectRegister r s).ut = s.ut := rfl
@[simp] theorem selectRegister_up (r : Byte) : (selectRegister r s).up = s.up := rfl
@[simp] theorem selectRegister_oss (r : Byte) : (selectRegister r s).oss = s.oss := rfl
@[simp] theorem selectRegister_b5 (r : Byte) : (selectRegister r s).b5 = s.b5 := rfl
@[simp] theorem selectRegister_x1 (r : Byte) : (selectRegister r s).x1 = s.x1 := rfl
@[simp] theorem selectRegister_x2 (r : Byte) : (selectRegister r s).x2 = s.x2 := rfl
@[simp] theorem selectRegister_x3 (r : Byte) : (selectRegister r s).x3 = s.x3 := rfl
@[simp] theorem selectRegister_t (r : Byte) : (selectRegister r s).t = s.t := rfl
@[simp] theorem selectRegister_b3 (r : Byte) : (selectRegister r s).b3 = s.b3 := rfl
@[simp] theorem selectRegister_b4 (r : Byte) : (selectRegister r s).b4 = s.b4 := rfl
@[simp] theorem selectRegister_b6 (r : Byte) : (selectRegister r s).b6 = s.b6 := rfl
@[simp] theorem selectRegister_b7 (r : Byte) : (selectRegister r s).b7 = s.b7 := rfl
@[simp] theorem selectRegister_p (r : Byte) : (selectRegister r s).p = s.p := rfl
@[simp] theorem selectRegister_pres (r : Byte) : (selectRegister r s).pres = s.pres := rfl
@[simp] theorem selectRegister_lastT (r : Byte) : (selectRegister r s).lastT = s.lastT := rfl
@[simp] theorem selectRegister_lastTValid (r : Byte) : (selectRegister r s).lastTValid = s.lastTValid := rfl
@[simp] theorem selectRegister_step (r : Byte) : (selectRegister r s).step = s.step := rfl
@[simp] theorem selectRegister_opSel (r : Byte) : (selectRegister r s).opSel = s.opSel := rfl
@[simp] theorem selectRegister_modeIn (r : Byte) : (selectRegister r s).modeIn = s.modeIn := rfl
@[simp] theorem selectRegister_status (r : Byte) : (selectRegister r s).status = s.status := rfl
@[simp] theorem selectRegister_value (r : Byte) : (selectRegister r s).value = s.value := rfl
@[simp] theorem selectRegister_info (r : Byte) : (selectRegister r s).info = s.info := rfl
@[simp] theorem selectRegister_rxq (r : Byte) : (selectRegister r s).rxq = s.rxq := rfl
@[simp] theorem selectRegister_latch (r : Byte) : (selectRegister r s).latch = s.latch := rfl
@[simp] theorem selectRegister_hostQ (r : Byte) : (selectRegister r s).hostQ = s.hostQ := rfl
@[simp] theorem selectRegister_replies (r : Byte) : (selectRegister r s).replies = s.replies := rfl
@[simp] theorem selectRegister_draws (r : Byte) : (selectRegister r s).draws = s.draws := rfl
@[simp] theorem selectRegister_waitCap (r : Byte) : (selectRegister r s).waitCap = s.waitCap := rfl
@[simp] theorem selectRegister_grain (r : Byte) : (selectRegister r s).grain = s.grain := rfl
@[simp] theorem selectRegister_trace (r : Byte) : (selectRegister r s).trace = s.trace ++ [.sel r] := rfl

/-! ### requestBytes (R74) replaces the receive queue, consumes one oracle answer and writes the trace -/

@[simp] theorem busRequest_session (r : Byte) (n : Nat) : (busRequest r n s).session = s.session := rfl
@[simp] theorem busRequest_cal (r : Byte) (n : Nat) : (busRequest r n s).cal = s.cal := rfl
@[simp] theorem busRequest_ut (r : Byte) (n : Nat) : (busRequest r n s).ut = s.ut := rfl
@[simp] theorem busRequest_up (r : Byte) (n : Nat) : (busRequest r n s).up = s.up := rfl
@[simp] theorem busRequest_oss (r : Byte) (n : Nat) : (busRequest r n s).oss = s.oss := rfl
@[simp] theorem busRequest_b5 (r : Byte) (n : Nat) : (busRequest r n s).b5 = s.b5 := rfl
@[simp] theorem busRequest_x1 (r : Byte) (n : Nat) : (busRequest r n s).x1 = s.x1 := rfl
@[simp] theorem busRequest_x2 (r : Byte) (n : Nat) : (busRequest r n s).x2 = s.x2 := rfl
@[simp] theorem busRequest_x3 (r : Byte) (n : Nat) : (busRequest r n s).x3 = s.x3 := rfl
@[simp] theorem busRequest_t (r : Byte) (n : Nat) : (busRequest r n s).t = s.t := rfl
@[simp] theorem busRequest_b3 (r : Byte) (n : Nat) : (busRequest r n s).b3 = s.b3 := rfl
@[simp] theorem busRequest_b4 (r : Byte) (n : Nat) : (busRequest r n s).b4 = s.b4 := rfl
@[simp] theorem busRequest_b6 (r : Byte) (n : Nat) : (busRequest r n s).b6 = s.b6 := rfl
@[simp] theorem busRequest_b7 (r : Byte) (n : Nat) : (busRequest r n s).b7 = s.b7 := rfl
@[simp] theorem busRequest_p (r : Byte) (n : Nat) : (busRequest r n s).p = s.p := rfl
@[simp] theorem busRequest_pres (r : Byte) (n : Nat) : (busRequest r n s).pres = s.pres := rfl
@[simp] theorem busRequest_lastT (r : Byte) (n : Nat) : (busRequest r n s).lastT = s.lastT := rfl
@[simp] theorem busRequest_lastTValid (r : Byte) (n : Nat) : (busRequest r n s).lastTValid = s.lastTValid := rfl
@[simp] theorem busRequest_step (r : Byte) (n : Nat) : (busRequest r n s).step = s.step := rfl
@[simp] theorem busRequest_opSel (r : Byte) (n : Nat) : (busRequest r n s).opSel = s.opSel := rfl
@[simp] theorem busRequest_modeIn (r : Byte) (n : Nat) : (busRequest r n s).modeIn = s.modeIn := rfl
@[simp] theorem busRequest_status (r : Byte) (n : Nat) : (busRequest r n s).status = s.status := rfl
@[simp] theorem busRequest_value (r : Byte) (n : Nat) : (busRequest r n s).value = s.value := rfl
@[simp] theorem busRequest_info (r : Byte) (n : Nat) : (busRequest r n s).info = s.info := rfl
@[simp] theorem busRequest_rxq (r : Byte) (n : Nat) : (busRequest r n s).rxq = answerBytes s.draws (answerCount s n) (answerScript s) := rfl
@[simp] theorem busRequest_latch (r : Byte) (n : Nat) : (busRequest r n s).latch = s.latch := rfl
@[simp] theorem busRequest_hostQ (r : Byte) (n : Nat) : (busRequest r n s).hostQ = s.hostQ := rfl
@[simp] theorem busRequest_replies (r : Byte) (n : Nat) : (busRequest r n s).replies = s.replies.tail := rfl
@[simp] theorem busRequest_draws (r : Byte) (n : Nat) : (busRequest r n s).draws = s.draws + 1 := rfl
@[simp] theorem busRequest_waitCap (r : Byte) (n : Nat) : (busRequest r n s).waitCap = s.waitCap := rfl
@[simp] theorem busRequest_grain (r : Byte) (n : Nat) : (busRequest r n s).grain = s.grain := rfl
@[simp] theorem busRequest_trace (r : Byte) (n : Nat) : (busRequest r n s).trace = s.trace ++ [.rq r n (answerCount s n)] := rfl

/-! ### readByte (R75) consumes the queue's head and writes the trace -/

@[simp] theorem busReadByte_session : (busReadByte s).session = s.session := rfl
@[simp] theorem busReadByte_cal : (busReadByte s).cal = s.cal := rfl
@[simp] theorem busReadByte_ut : (busReadByte s).ut = s.ut := rfl
@[simp] theorem busReadByte_up : (busReadByte s).up = s.up := rfl
@[simp] theorem busReadByte_oss : (busReadByte s).oss = s.oss := rfl
@[simp] theorem busReadByte_b5 : (busReadByte s).b5 = s.b5 := rfl
@[simp] theorem busReadByte_x1 : (busReadByte s).x1 = s.x1 := rfl
@[simp] theorem busReadByte_x2 : (busReadByte s).x2 = s.x2 := rfl
@[simp] theorem busReadByte_x3 : (busReadByte s).x3 = s.x3 := rfl
@[simp] theorem busReadByte_t : (busReadByte s).t = s.t := rfl
@[simp] theorem busReadByte_b3 : (busReadByte s).b3 = s.b3 := rfl
@[simp] theorem busReadByte_b4 : (busReadByte s).b4 = s.b4 := rfl
@[simp] theorem busReadByte_b6 : (busReadByte s).b6 = s.b6 := rfl
@[simp] theorem busReadByte_b7 : (busReadByte s).b7 = s.b7 := rfl
@[simp] theorem busReadByte_p : (busReadByte s).p = s.p := rfl
@[simp] theorem busReadByte_pres : (busReadByte s).pres = s.pres := rfl
@[simp] theorem busReadByte_lastT : (busReadByte s).lastT = s.lastT := rfl
@[simp] theorem busReadByte_lastTValid : (busReadByte s).lastTValid = s.lastTValid := rfl
@[simp] theorem busReadByte_step : (busReadByte s).step = s.step := rfl
@[simp] theorem busReadByte_opSel : (busReadByte s).opSel = s.opSel := rfl
@[simp] theorem busReadByte_modeIn : (busReadByte s).modeIn = s.modeIn := rfl
@[simp] theorem busReadByte_status : (busReadByte s).status = s.status := rfl
@[simp] theorem busReadByte_value : (busReadByte s).value = s.value := rfl
@[simp] theorem busReadByte_info : (busReadByte s).info = s.info := rfl
@[simp] theorem busReadByte_rxq : (busReadByte s).rxq = s.rxq.tail := rfl
@[simp] theorem busReadByte_latch : (busReadByte s).latch = s.latch := rfl
@[simp] theorem busReadByte_hostQ : (busReadByte s).hostQ = s.hostQ := rfl
@[simp] theorem busReadByte_replies : (busReadByte s).replies = s.replies := rfl
@[simp] theorem busReadByte_draws : (busReadByte s).draws = s.draws := rfl
@[simp] theorem busReadByte_waitCap : (busReadByte s).waitCap = s.waitCap := rfl
@[simp] theorem busReadByte_grain : (busReadByte s).grain = s.grain := rfl
@[simp] theorem busReadByte_trace : (busReadByte s).trace = s.trace ++ [.rd (nextByte s)] := rfl

end Sys2Proof.Machine
end

