-- ==== Sys2Proof/Laws/Ops.lean ====
section
/-! SUPPORT. What each shared operation of Machine/Ops.lean can do, said once. -/

namespace Sys2Proof.Machine

/-! ## Register reads -/

@[simp] theorem need_some {α : Type} (r : RegName) (v : α) (k : α → Out) : need r (some v) k = k v := rfl

@[simp] theorem need_none {α : Type} (r : RegName) (k : α → Out) : need r none k = .fault (.unwritten r) := rfl

/-- A read that does not stop found a written register (R40). -/
theorem need_eq_next {α : Type} {r : RegName} {o : Option α} {k : α → Out} {t : State} :
    need r o k = .next t ↔ ∃ v, o = some v ∧ k v = .next t := by
  cases o <;> simp

/-- A read of a written register goes on with its value. -/
theorem need_isSome {α : Type} {r : RegName} {o : Option α} (k : α → Out) (h : o.isSome) :
    ∃ v, o = some v ∧ need r o k = k v := by
  cases o with
  | none => cases h
  | some v => exact ⟨v, rfl, rfl⟩

/-! ## Running a listing -/

@[simp] theorem runSeq_nil (s : State) : runSeq [] s = .next s := rfl

theorem runSeq_cons_stop {f : State → Out} {fs : List (State → Out)} {s t : State} (h : f s = .next t)
    (hi : t.step = .idle) : runSeq (f :: fs) s = .next t := by
  simp [runSeq, h, hi]

theorem runSeq_cons_go {f : State → Out} {fs : List (State → Out)} {s t : State} (h : f s = .next t)
    (hi : t.step ≠ .idle) : runSeq (f :: fs) s = runSeq fs t := by
  simp [runSeq, h, hi]

theorem runSeq_cons_fault {f : State → Out} {fs : List (State → Out)} {s : State} {r : Fault}
    (h : f s = .fault r) : runSeq (f :: fs) s = .fault r := by
  simp [runSeq, h]

/-- Where a listing answers a next state, its first statement did, and either ended the operation there or the rest
ran from where it left off. -/
theorem runSeq_cons_cases {f : State → Out} {fs : List (State → Out)} {s t : State}
    (h : runSeq (f :: fs) s = .next t) :
    ∃ s', f s = .next s' ∧ ((s'.step = .idle ∧ t = s') ∨ (s'.step ≠ .idle ∧ runSeq fs s' = .next t)) := by
  cases hf : f s with
  | next s' =>
    refine ⟨s', rfl, ?_⟩
    by_cases hi : s'.step = .idle
    · rw [runSeq_cons_stop hf hi] at h
      cases h
      exact .inl ⟨hi, rfl⟩
    · rw [runSeq_cons_go hf hi] at h
      exact .inr ⟨hi, h⟩
  | fault r => simp [runSeq, hf] at h
  | refused r => simp [runSeq, hf] at h

/-- A property of two states that every statement of a listing has, and that composes, is one of the whole listing. -/
theorem runSeq_induct {R : State → State → Prop} (refl : ∀ s, R s s)
    (trans : ∀ s t u, R s t → R t u → R s u) {fs : List (State → Out)}
    (hf : ∀ f ∈ fs, ∀ s t, f s = .next t → R s t) {s t : State} (h : runSeq fs s = .next t) : R s t := by
  induction fs generalizing s with
  | nil =>
    cases h
    exact refl _
  | cons f fs ih =>
    obtain ⟨s', hs, ⟨-, rfl⟩ | ⟨-, hr⟩⟩ := runSeq_cons_cases h
    · exact hf f (by simp) _ _ hs
    · exact trans _ _ _ (hf f (by simp) _ _ hs) (ih (fun g hg => hf g (by simp [hg])) hr)

/-- A total listing is a listing. -/
theorem runSeq_total (fs : List (State → State)) (s : State) :
    runSeq (fs.map fun f s => .next (f s)) s = .next (runTotal fs s) := by
  induction fs generalizing s with
  | nil => rfl
  | cons f fs ih =>
    simp only [List.map_cons, runSeq, runTotal]
    split
    · rfl
    · exact ih (f s)

/-! ## The oracle and the reads -/

@[simp] theorem answerBytes_length (k n : Nat) (bs : List Byte) : (answerBytes k n bs).length = n := by
  simp [answerBytes]

/-- A request is answered with a count no larger than asked for (R74). -/
theorem answerCount_le (s : State) (n : Nat) : answerCount s n ≤ n := by
  unfold answerCount
  split <;> exact Nat.min_le_right _ _

/-- A script that covers the request is what the queue receives (R74, R75). -/
theorem answerBytes_scripted (k : Nat) (bs : List Byte) : answerBytes k bs.length bs = bs := by
  apply List.ext_getElem
  · simp
  · intro i h₁ h₂
    simp [answerBytes, List.getD_eq_getElem?_getD, List.getElem?_eq_getElem h₂]

/-- `readBytes` over the whole queue latches it, empties it, records one entry a byte and changes nothing else (R76). -/
theorem readBytes_all (bs : List Byte) (got : List Byte) (s : State) (h : s.rxq = bs) :
    readBytes bs.length got s =
      { s with latch := got ++ bs, rxq := [], trace := s.trace ++ bs.map .rd } := by
  induction bs generalizing got s with
  | nil =>
    cases s
    simp_all [readBytes]
  | cons b bs ih =>
    have hb : nextByte s = b := by simp [nextByte, h]
    have hq : (busReadByte s).rxq = bs := by simp [h]
    rw [List.length_cons, readBytes, ih _ _ hq, hb]
    cases s
    simp_all [busReadByte, record, nextByte]

/-- BusRead with a short count (R76, R305): E_BUS, with the count recorded, and no `readByte`. -/
theorem busRead_short {reg : Byte} {n : Nat} {s : State} (h : answerCount s n < n) :
    busRead reg n s = raise (.bus reg n (answerCount s n)) (busRequest reg n s) := by
  simp [busRead, h]

/-- BusRead with a full count (R76): the answered bytes are latched in the order received. -/
theorem busRead_full {reg : Byte} {n : Nat} {s : State} (h : answerCount s n = n) :
    busRead reg n s =
      advance { busRequest reg n s with
        latch := answerBytes s.draws n (answerScript s), rxq := [],
        trace := s.trace ++ .rq reg n n :: (answerBytes s.draws n (answerScript s)).map .rd } := by
  have hq : (busRequest reg n s).rxq = answerBytes s.draws n (answerScript s) := by simp [h]
  have hr := readBytes_all _ [] _ hq
  rw [answerBytes_length] at hr
  rw [busRead, if_neg (by omega), hr]
  simp [h]

/-- BusRead does one of two things (R76). -/
theorem busRead_cases (reg : Byte) (n : Nat) (s : State) :
    (answerCount s n < n ∧ busRead reg n s = raise (.bus reg n (answerCount s n)) (busRequest reg n s)) ∨
    (answerCount s n = n ∧ busRead reg n s =
      advance { busRequest reg n s with
        latch := answerBytes s.draws n (answerScript s), rxq := [],
        trace := s.trace ++ .rq reg n n :: (answerBytes s.draws n (answerScript s)).map .rd }) := by
  by_cases h : answerCount s n < n
  · exact .inl ⟨h, busRead_short h⟩
  · have := answerCount_le s n
    exact .inr ⟨by omega, busRead_full (by omega)⟩

/-! ## The wait -/

/-- A wait that goes on recorded its argument and advanced (R322). -/
theorem wait_eq_next {n : Nat} {s t : State} :
    wait n s = .next t ↔ callWait s.waitCap n = .returns ∧ t = advance (record (.wait n) s) := by
  unfold wait
  cases h : callWait s.waitCap n <;> simp [eq_comm]

/-- A wait that stops was a call that never returns (U14). -/
theorem wait_eq_fault {n : Nat} {s : State} {r : Fault} :
    wait n s = .fault r ↔ callWait s.waitCap n = .hangs ∧ r = .waitHangs := by
  unfold wait
  cases h : callWait s.waitCap n <;> simp [eq_comm]

/-! ## The step's choice of grain -/

/-- A presented operation that is taken one statement a step only sets STEP (R44). -/
theorem runOperation_starts {i : Instr} {s : State} {l : Label} (hg : s.grain = .statement)
    (hl : firstLabel i = some l) : runOperation i s = .next (enter l s) := by
  simp [runOperation, hg, hl]

/-- Any other operation runs by its meaning. -/
theorem runOperation_meaning {i : Instr} {s : State} (h : s.grain = .operation ∨ firstLabel i = none) :
    runOperation i s = exec i s := by
  unfold runOperation
  rcases h with h | h <;> cases hg : s.grain <;> simp_all

/-- A step does one of these two with an operation. -/
theorem runOperation_cases (i : Instr) (s : State) :
    (∃ l, s.grain = .statement ∧ firstLabel i = some l ∧ runOperation i s = .next (enter l s)) ∨
      runOperation i s = exec i s := by
  cases hg : s.grain with
  | operation => exact .inr (runOperation_meaning (.inl hg))
  | statement =>
    cases hl : firstLabel i with
    | none => exact .inr (runOperation_meaning (.inr hl))
    | some l => exact .inl ⟨l, rfl, rfl, runOperation_starts hg hl⟩

end Sys2Proof.Machine
end

