-- ==== Sys2Proof/Laws/Frame.lean ====
section
/-! SUPPORT. What the statements that work on registers alone leave unchanged: the pipeline steps, the two passes, the
register-to-register conditioning operations and the session test. Each answers a next state only where its operands
are written, and then keeps everything a `Frame` lists. -/

namespace Sys2Proof.Machine

/-- `t` differs from `s` at most in UT, UP, OSS, B5, the working registers, STEP, STATUS, VALUE and the recorded info. -/
structure Frame (s t : State) : Prop where
  session : t.session = s.session
  cal : t.cal = s.cal
  lastT : t.lastT = s.lastT
  lastTValid : t.lastTValid = s.lastTValid
  hostQ : t.hostQ = s.hostQ
  replies : t.replies = s.replies
  draws : t.draws = s.draws
  waitCap : t.waitCap = s.waitCap
  grain : t.grain = s.grain
  opSel : t.opSel = s.opSel
  modeIn : t.modeIn = s.modeIn
  rxq : t.rxq = s.rxq
  latch : t.latch = s.latch
  trace : t.trace = s.trace

theorem Frame.refl (s : State) : Frame s s := by constructor <;> rfl

theorem Frame.trans (s t u : State) (h : Frame s t) (k : Frame t u) : Frame s u where
  session := k.session.trans h.session
  cal := k.cal.trans h.cal
  lastT := k.lastT.trans h.lastT
  lastTValid := k.lastTValid.trans h.lastTValid
  hostQ := k.hostQ.trans h.hostQ
  replies := k.replies.trans h.replies
  draws := k.draws.trans h.draws
  waitCap := k.waitCap.trans h.waitCap
  grain := k.grain.trans h.grain
  opSel := k.opSel.trans h.opSel
  modeIn := k.modeIn.trans h.modeIn
  rxq := k.rxq.trans h.rxq
  latch := k.latch.trans h.latch
  trace := k.trace.trans h.trace

theorem frame_enter (l : Label) (s : State) : Frame s (enter l s) := by constructor <;> rfl

theorem frame_advance (s : State) : Frame s (advance s) := by constructor <;> rfl

theorem frame_raise (e : Err) (s : State) : Frame s (raise e s) := by constructor <;> rfl

theorem frame_requireReady (s : State) : Frame s (requireReady s) := by
  unfold requireReady
  split
  · exact frame_advance s
  · exact frame_raise _ s

theorem frame_checkId (s : State) : Frame s (checkId s) := by
  unfold checkId
  split
  · exact frame_advance s
  · exact frame_raise _ s

theorem frame_clamp {s t : State} (h : execClamp s = .next t) : Frame s t := by
  cases h
  constructor <;> rfl

theorem frame_asmUt {s t : State} (h : execAsmUt s = .next t) : Frame s t := by
  cases h
  constructor <;> rfl

theorem frame_asmUp {s t : State} (h : execAsmUp s = .next t) : Frame s t := by
  simp only [execAsmUp, need_eq_next] at h
  obtain ⟨_, -, h⟩ := h
  cases h
  constructor <;> rfl

theorem frame_t1 {s t : State} (h : execT1 s = .next t) : Frame s t := by
  simp only [execT1, need_eq_next] at h
  obtain ⟨_, -, _, -, _, -, h⟩ := h
  cases h
  constructor <;> rfl

/-- All T2 can do when it goes on: a zero divisor, or the quotient (R162). -/
theorem execT2_cases {s t : State} (h : execT2 s = .next t) :
    ∃ x1 md, s.x1 = some x1 ∧ s.cal.md = some md ∧
      ((isZero (add32 x1 (sext16 md)) = true ∧ t = raise (.div0Temp x1 (sext16 md)) s) ∨
       (isZero (add32 x1 (sext16 md)) = false ∧ ∃ mc, s.cal.mc = some mc ∧
         t = advance { s with x2 := some (sdiv (mul32 (sext16 mc) 2048) (add32 x1 (sext16 md))) })) := by
  simp only [execT2, need_eq_next] at h
  obtain ⟨x1, h1, md, h2, h⟩ := h
  refine ⟨x1, md, h1, h2, ?_⟩
  split at h
  · cases h
    exact .inl ⟨‹_›, rfl⟩
  · obtain ⟨mc, h3, h⟩ := need_eq_next.1 h
    cases h
    exact .inr ⟨Bool.eq_false_iff.2 ‹_›, mc, h3, rfl⟩

theorem frame_t2 {s t : State} (h : execT2 s = .next t) : Frame s t := by
  obtain ⟨_, _, -, -, ⟨-, rfl⟩ | ⟨-, _, -, rfl⟩⟩ := execT2_cases h <;> constructor <;> rfl

theorem frame_t3 {s t : State} (h : execT3 s = .next t) : Frame s t := by
  simp only [execT3, need_eq_next] at h
  obtain ⟨_, -, _, -, h⟩ := h
  cases h
  constructor <;> rfl

theorem frame_t4 {s t : State} (h : execT4 s = .next t) : Frame s t := by
  simp only [execT4, need_eq_next] at h
  obtain ⟨_, -, h⟩ := h
  cases h
  constructor <;> rfl

theorem frame_p1 {s t : State} (h : execP1 s = .next t) : Frame s t := by
  simp only [execP1, need_eq_next] at h
  obtain ⟨_, -, h⟩ := h
  cases h
  constructor <;> rfl

theorem frame_p2 {s t : State} (h : execP2 s = .next t) : Frame s t := by
  simp only [execP2, need_eq_next] at h
  obtain ⟨_, -, _, -, h⟩ := h
  cases h
  constructor <;> rfl

theorem frame_p3 {s t : State} (h : execP3 s = .next t) : Frame s t := by
  simp only [execP3, need_eq_next] at h
  obtain ⟨_, -, _, -, h⟩ := h
  cases h
  constructor <;> rfl

theorem frame_p4 {s t : State} (h : execP4 s = .next t) : Frame s t := by
  simp only [execP4, need_eq_next] at h
  obtain ⟨_, -, _, -, h⟩ := h
  cases h
  constructor <;> rfl

theorem frame_p5 {s t : State} (h : execP5 s = .next t) : Frame s t := by
  simp only [execP5, need_eq_next] at h
  obtain ⟨_, -, _, -, _, -, h⟩ := h
  cases h
  constructor <;> rfl

theorem frame_p6 {s t : State} (h : execP6 s = .next t) : Frame s t := by
  simp only [execP6, need_eq_next] at h
  obtain ⟨_, -, _, -, h⟩ := h
  cases h
  constructor <;> rfl

theorem frame_p7 {s t : State} (h : execP7 s = .next t) : Frame s t := by
  simp only [execP7, need_eq_next] at h
  obtain ⟨_, -, _, -, h⟩ := h
  cases h
  constructor <;> rfl

theorem frame_p8 {s t : State} (h : execP8 s = .next t) : Frame s t := by
  simp only [execP8, need_eq_next] at h
  obtain ⟨_, -, _, -, h⟩ := h
  cases h
  constructor <;> rfl

theorem frame_p9 {s t : State} (h : execP9 s = .next t) : Frame s t := by
  simp only [execP9, need_eq_next] at h
  obtain ⟨_, -, _, -, h⟩ := h
  cases h
  constructor <;> rfl

theorem frame_p10 {s t : State} (h : execP10 s = .next t) : Frame s t := by
  simp only [execP10, need_eq_next] at h
  obtain ⟨_, -, _, -, _, -, h⟩ := h
  cases h
  constructor <;> rfl

/-- All P11 can do when it goes on: a zero divisor, or the quotient (R191). -/
theorem execP11_cases {s t : State} (h : execP11 s = .next t) :
    ∃ b4, s.b4 = some b4 ∧
      ((isZero b4 = true ∧ t = raise (.div0Pres b4) s) ∨
       (isZero b4 = false ∧ ∃ b7, s.b7 = some b7 ∧ t = advance { s with p := some (toS32 (p11Quotient b7 b4)) })) := by
  simp only [execP11, need_eq_next] at h
  obtain ⟨b4, h1, h⟩ := h
  refine ⟨b4, h1, ?_⟩
  split at h
  · cases h
    exact .inl ⟨‹_›, rfl⟩
  · obtain ⟨b7, h2, h⟩ := need_eq_next.1 h
    cases h
    exact .inr ⟨Bool.eq_false_iff.2 ‹_›, b7, h2, rfl⟩

theorem frame_p11 {s t : State} (h : execP11 s = .next t) : Frame s t := by
  obtain ⟨_, -, ⟨-, rfl⟩ | ⟨-, _, -, rfl⟩⟩ := execP11_cases h <;> constructor <;> rfl

theorem frame_p12 {s t : State} (h : execP12 s = .next t) : Frame s t := by
  simp only [execP12, need_eq_next] at h
  obtain ⟨_, -, h⟩ := h
  cases h
  constructor <;> rfl

theorem frame_p13 {s t : State} (h : execP13 s = .next t) : Frame s t := by
  simp only [execP13, need_eq_next] at h
  obtain ⟨_, -, h⟩ := h
  cases h
  constructor <;> rfl

theorem frame_p14 {s t : State} (h : execP14 s = .next t) : Frame s t := by
  simp only [execP14, need_eq_next] at h
  obtain ⟨_, -, h⟩ := h
  cases h
  constructor <;> rfl

theorem frame_p15 {s t : State} (h : execP15 s = .next t) : Frame s t := by
  simp only [execP15, need_eq_next] at h
  obtain ⟨_, -, _, -, _, -, h⟩ := h
  cases h
  constructor <;> rfl

theorem frame_compT {s t : State} (h : execCompT s = .next t) : Frame s t := by
  refine Frame.trans _ (enter .t1 s) _ (frame_enter _ s) (runSeq_induct Frame.refl Frame.trans ?_ h)
  simp only [List.mem_cons, List.not_mem_nil, or_false, forall_eq_or_imp, forall_eq]
  exact ⟨fun _ _ => frame_t1, fun _ _ => frame_t2, fun _ _ => frame_t3, fun _ _ => frame_t4⟩

theorem frame_compP {s t : State} (h : execCompP s = .next t) : Frame s t := by
  refine Frame.trans _ (enter .p1 s) _ (frame_enter _ s) (runSeq_induct Frame.refl Frame.trans ?_ h)
  simp only [List.mem_cons, List.not_mem_nil, or_false, forall_eq_or_imp, forall_eq]
  exact ⟨fun _ _ => frame_p1, fun _ _ => frame_p2, fun _ _ => frame_p3, fun _ _ => frame_p4, fun _ _ => frame_p5,
    fun _ _ => frame_p6, fun _ _ => frame_p7, fun _ _ => frame_p8, fun _ _ => frame_p9, fun _ _ => frame_p10,
    fun _ _ => frame_p11, fun _ _ => frame_p12, fun _ _ => frame_p13, fun _ _ => frame_p14, fun _ _ => frame_p15⟩

/-- BEGIN is the listing of its statements (R252). -/
theorem execBegin_eq_runSeq (s : State) :
    execBegin s =
      runSeq [fun s => .next (stmtB1 s), execReadId, execCheckId, execReadCal, execUnpackCal, fun s => .next (stmtB6 s)]
        (present 0b00 s.modeIn .b1 s) :=
  (runSeq_total [stmtB1, busRead regId 1, checkId, busRead regCal calBytes, unpackCal, stmtB6] _).symm

end Sys2Proof.Machine
end

