-- ==== Sys2Proof/Laws/PerInstr.lean ====
section
/-! SUPPORT. For each operation, as syntax: its code decodes to it (30_encoding.md). -/

namespace Sys2Proof.Laws.Encoding

/-- The code of `i` decodes to `i`. -/
def Statement (i : Instr) : Prop := decode (encode i) = .ok i

theorem startT : Statement .startT := rfl
theorem readId : Statement .readId := rfl
theorem readCal : Statement .readCal := rfl
theorem readUt : Statement .readUt := rfl
theorem readUp : Statement .readUp := rfl
theorem beginOp : Statement .beginOp := rfl
theorem getLastTemperature : Statement .getLastTemperature := rfl
theorem reservedHost : Statement .reservedHost := rfl
theorem checkId : Statement .checkId := rfl
theorem unpackCal : Statement .unpackCal := rfl
theorem asmUt : Statement .asmUt := rfl
theorem clamp : Statement .clamp := rfl
theorem asmUp : Statement .asmUp := rfl
theorem compT : Statement .compT := rfl
theorem t1 : Statement .t1 := rfl
theorem t2 : Statement .t2 := rfl
theorem t3 : Statement .t3 := rfl
theorem t4 : Statement .t4 := rfl
theorem compP : Statement .compP := rfl
theorem p1 : Statement .p1 := rfl
theorem p2 : Statement .p2 := rfl
theorem p3 : Statement .p3 := rfl
theorem p4 : Statement .p4 := rfl
theorem p5 : Statement .p5 := rfl
theorem p6 : Statement .p6 := rfl
theorem p7 : Statement .p7 := rfl
theorem p8 : Statement .p8 := rfl
theorem p9 : Statement .p9 := rfl
theorem p10 : Statement .p10 := rfl
theorem p11 : Statement .p11 := rfl
theorem p12 : Statement .p12 := rfl
theorem p13 : Statement .p13 := rfl
theorem p14 : Statement .p14 := rfl
theorem p15 : Statement .p15 := rfl

theorem startP (oss : BitVec 2) : Statement (.startP oss) := by
  have h : ∀ o : BitVec 2, decode (encode (.startP o)) = .ok (.startP o) := by decide
  exact h oss

theorem getPressure (mode : Byte) : Statement (.getPressure mode) := rfl

theorem selectDelay (conv : Conversion) : Statement (.selectDelay conv) := by cases conv <;> rfl

end Sys2Proof.Laws.Encoding
end

