-- ==== Sys2Proof/Tests/Slice0.lean ====
section
/-! SUPPORT. The model's own tests. Expected results are those of 95_test_vectors.md (vectors L1-1, L2-A, L2-T, L2-P,
L2-C, L2-S, programs 1, 4, 5, 6) and of the tables of 30_encoding.md; none was taken from the model. -/

namespace Sys2Proof.Tests

open Sys2Proof.Machine

/-! ## Well-formedness -/

theorem test_wf_refuses_reserved : Instr.wf .reservedHost = false := rfl
theorem test_wf_accepts_begin : Instr.wf .beginOp = true := rfl

/-! ## Decoding, from the words of R101 to R104 written out -/

theorem test_decode_start_t : decodeTableWord 8 0b00101110 = some .startT := by decide
theorem test_decode_start_p : decodeTableWord 8 0b01110100 = some (.startP 1) := by decide
theorem test_decode_start_p_3 : decodeTableWord 8 0b11110100 = some (.startP 3) := by decide
theorem test_decode_read_id : decodeTableWord 16 0b1101000000000001 = some .readId := by decide
theorem test_decode_read_cal : decodeTableWord 24 0xAA16 = some .readCal := by decide
theorem test_decode_read_ut : decodeTableWord 16 0b1111011000000010 = some .readUt := by decide
theorem test_decode_read_up : decodeTableWord 16 0b1111011000000011 = some .readUp := by decide
theorem test_decode_begin : decodeTableWord 8 0b00 = some .beginOp := by decide
theorem test_decode_get_pressure : decodeTableWord 8 0b01 = some (.getPressure 0) := by decide
theorem test_decode_get_last : decodeTableWord 8 0b10 = some .getLastTemperature := by decide
theorem test_decode_reserved : decodeTableWord 8 0b11 = some .reservedHost := by decide
theorem test_decode_mode_byte : decodeBytes .host [0b01, 7] = .ok (.getPressure 7) := by rfl
theorem test_decode_unknown_command : decodeBytes .cmd8 [0x2F] = .error (.unknownCommand 0x2F) := by rfl
theorem test_decode_unknown_read : decodeBytes .rd [4, 0xF6] = .error (.unknownRead 0xF604) := by rfl
theorem test_decode_long_command : decodeBytes .cmd8 [0x2E, 0] = .error (.wrongLength 2) := by rfl
theorem test_decode_step : decode (.sel .g6) = .ok .compT := by rfl

/-! ## Small states -/

/-- The calibration of vector L1-1. -/
def calEx : Cal :=
  { ac1 := some 0x0198, ac2 := some 0xFFB8, ac3 := some 0xC7D1, ac4 := some 0x7FE5, ac5 := some 0x7FF5,
    ac6 := some 0x5A71, b1 := some 0x182E, b2 := some 0x0004, mb := some 0x8000, mc := some 0xDDF9,
    md := some 0x0B34 }

/-- The 22 payload bytes of vector L1-1. -/
def payloadEx : List Byte :=
  [0x01, 0x98, 0xFF, 0xB8, 0xC7, 0xD1, 0x7F, 0xE5, 0x7F, 0xF5, 0x5A] ++
  [0x71, 0x18, 0x2E, 0x00, 0x04, 0x80, 0x00, 0xDD, 0xF9, 0x0B, 0x34]

/-- READY with the calibration of L1-1 and nothing else written. -/
def ready : State := { State.reset with session := .ready, cal := calEx }

/-- `ready` with AC4 = 0 (vector P-8). -/
def deadAc4 : State := { ready with cal := { calEx with ac4 := some 0 } }

/-- `ready` with the transport's answers to a GET_PRESSURE. -/
def answering (u v : Reply) : State := { ready with replies := [u, v] }

/-- The state an outcome goes on in. -/
def after : Out → Option State
  | .next s => some s
  | .fault _ => none
  | .refused _ => none

/-- The reason an outcome stops with. -/
def stopped : Out → Option Fault
  | .fault r => some r
  | .next _ => none
  | .refused _ => none

/-! ## Arithmetic primitives, vectors A1 to A27 -/

theorem test_add32_wraps : (add32 2147483647 1).toInt = -2147483648 := by decide
theorem test_sub32_wraps : (sub32 (-2147483648) 1).toInt = 2147483647 := by decide
theorem test_mul32_wraps : (mul32 46341 46341).toInt = -2147479015 := by decide
theorem test_asr_floors : (asr (-17) 4).toInt = -2 := by decide
theorem test_lsr : (lsr 4294967295 15).toNat = 131071 := by decide
theorem test_lsl_wraps : (lsl 1073741824 1).toInt = -2147483648 := by decide
theorem test_sdiv_truncates : (sdiv (-7) 2).toInt = -3 ∧ (sdiv (-7) (-2)).toInt = 3 := by decide
theorem test_sdiv_overflow : (sdiv (-2147483648) (-1)).toInt = -2147483648 := by decide
theorem test_udiv : (udiv 4278867296 33457).toNat = 127891 := by decide
theorem test_to_s32 : (toS32 0x80000000).toInt = -2147483648 ∧ (toU32 (-422)).toNat = 4294966874 := by decide
theorem test_ult : ult 0x7FFFFFFF 0x80000000 = true ∧ ult 0x80000000 0x80000000 = false := by decide

/-! ## Temperature pass, vectors L1-1 and L2-T -/

theorem test_t1 : ((after (exec .t1 { ready with ut := some 27898 })).map (·.x1)) = some (some 4743) := by decide
theorem test_t1_floors : ((after (exec .t1 { ready with ut := some 15000 })).map (·.x1)) = some (some (-8151)) := by
  decide
theorem test_t2 : ((after (exec .t2 { ready with x1 := some 4743 })).map (·.x2)) = some (some (-2343)) := by decide
theorem test_t2_zero_divisor :
    ((after (exec .t2 { ready with x1 := some (-2868) })).map (fun t => (t.status, t.x2))) =
      some (some .div0Temp, none) := by decide
theorem test_t3 :
    ((after (exec .t3 { ready with x1 := some 4743, x2 := some (-2343) })).map (·.b5)) = some (some 2400) := by decide
theorem test_t4 : ((after (exec .t4 { ready with b5 := some 2400 })).map (·.t)) = some (some 150) := by decide
theorem test_t4_floors : ((after (exec .t4 { ready with b5 := some (-25) })).map (·.t)) = some (some (-2)) := by decide
theorem test_comp_t :
    ((after (exec .compT { ready with ut := some 23153 })).map (fun t => (t.x1, t.x2, t.b5, t.t, t.step))) =
      some (some 0, some (-6220), some (-6220), some (-389), .g7) := by decide

/-! ## Pressure pass, vectors L1-1 and L2-P -/

theorem test_p1 : ((after (exec .p1 { ready with b5 := some 2400 })).map (·.b6)) = some (some (-1600)) := by decide
theorem test_p2 : ((after (exec .p2 { ready with b6 := some (-1600) })).map (·.x1)) = some (some 1) := by decide
theorem test_p3 : ((after (exec .p3 { ready with b6 := some (-1600) })).map (·.x2)) = some (some 56) := by decide
theorem test_p4 :
    ((after (exec .p4 { ready with x1 := some 1, x2 := some 56 })).map (·.x3)) = some (some 57) := by decide
theorem test_p5 :
    ((after (exec .p5 { ready with x3 := some 57, oss := some 3 })).map (·.b3)) = some (some 3378) := by decide
theorem test_p6 : ((after (exec .p6 { ready with b6 := some (-1600) })).map (·.x1)) = some (some 2809) := by decide
theorem test_p7 : ((after (exec .p7 { ready with b6 := some (-1600) })).map (·.x2)) = some (some 59) := by decide
theorem test_p8 :
    ((after (exec .p8 { ready with x1 := some 2809, x2 := some 59 })).map (·.x3)) = some (some 717) := by decide
theorem test_p9 : ((after (exec .p9 { ready with x3 := some 717 })).map (·.b4)) = some (some 33457) := by decide
theorem test_p10_wraps :
    ((after (exec .p10 { ready with up := some 100, b3 := some 422, oss := some 0 })).map (·.b7)) =
      some (some 4278867296) := by decide
theorem test_p11 :
    ((after (exec .p11 { ready with b7 := some 1171050000, b4 := some 33457 })).map (·.p)) = some (some 70003) := by
  decide
theorem test_p11_second_branch :
    ((after (exec .p11 { ready with b7 := some 4278867296, b4 := some 33457 })).map (·.p)) = some (some 255782) := by
  decide
theorem test_p12 : ((after (exec .p12 { ready with p := some 70003 })).map (·.x1)) = some (some 74529) := by decide
theorem test_p13_wraps :
    ((after (exec .p13 { ready with x1 := some 998001 })).map (·.x1)) = some (some (-19273)) := by decide
theorem test_p14 : ((after (exec .p14 { ready with p := some 70003 })).map (·.x2)) = some (some (-7859)) := by decide
theorem test_p15 :
    ((after (exec .p15 { ready with p := some 70003, x1 := some 3454, x2 := some (-7859) })).map (·.pres)) =
      some (some 69964) := by decide
theorem test_comp_p :
    ((after (exec .compP { ready with up := some 190744, oss := some 3, b5 := some 2400 })).map
      (fun t => (t.b3, t.b7, t.p, t.pres, t.step))) =
      some (some 3378, some 1171037500, some 70002, some 69963, .g12) := by decide
theorem test_comp_p_zero_b4 :
    ((after (exec .compP { deadAc4 with up := some 23843, oss := some 0, b5 := some 2400 })).map (fun t => (t.status, t.p, t.step))) =
      some (some .div0Pres, none, .idle) := by decide

/-! ## Conditioning, vectors L2-C -/

theorem test_check_id_fails :
    ((after (exec .checkId { State.reset with latch := [0x54], step := .b3 })).map (fun t => (t.status, t.info))) =
      some (some .idMismatch, some (.idMismatch 0x54)) := by decide
theorem test_check_id_passes :
    ((after (exec .checkId { State.reset with latch := [0x55], step := .b3 })).map (fun t => (t.status, t.step))) =
      some (none, .b4) := by decide
theorem test_unpack_cal :
    ((after (exec .unpackCal { State.reset with latch := payloadEx })).map (·.cal)) = some calEx := by decide
theorem test_asm_ut :
    ((after (exec .asmUt { ready with latch := [0x6C, 0xFA] })).map (·.ut)) = some (some 27898) := by decide
theorem test_clamp : ((after (exec .clamp { ready with modeIn := 4 })).map (·.oss)) = some (some 3) := by decide
theorem test_clamp_in_range : ((after (exec .clamp { ready with modeIn := 2 })).map (·.oss)) = some (some 2) := by
  decide
theorem test_asm_up_oss0 :
    ((after (exec .asmUp { ready with latch := [0x5D, 0x23, 0xFF], oss := some 0 })).map (·.up)) =
      some (some 23843) := by decide
theorem test_asm_up_oss3 :
    ((after (exec .asmUp { ready with latch := [0x5D, 0x23, 0xE0], oss := some 3 })).map (·.up)) =
      some (some 190751) := by decide
theorem test_select_delay :
    ((after (exec (.selectDelay .pressure) { ready with oss := some 2 })).map (·.trace)) = some [.wait 14] := by decide
theorem test_select_delay_temperature :
    ((after (exec (.selectDelay .temperature) ready)).map (·.trace)) = some [.wait 5] := by decide

/-! ## Commands and reads -/

theorem test_start_t : ((after (exec .startT ready)).map (·.trace)) = some [.wr 0xF4 0x2E] := by decide
theorem test_start_p : ((after (exec (.startP 2) ready)).map (·.trace)) = some [.wr 0xF4 0xB4] := by decide
theorem test_read_ut :
    ((after (exec .readUt { ready with replies := [⟨2, [0x6C, 0xFA]⟩] })).map (fun t => (t.latch, t.trace))) =
      some ([0x6C, 0xFA], [.rq 0xF6 2 2, .rd 0x6C, .rd 0xFA]) := by decide
theorem test_read_up_short :
    ((after (exec .readUp { ready with replies := [⟨2, [0x5D, 0x23]⟩] })).map (fun t => (t.info, t.trace))) =
      some (some (.bus 0xF6 3 2), [.rq 0xF6 3 2]) := by decide
theorem test_read_id_short :
    ((after (exec .readId { ready with replies := [⟨0, []⟩] })).map (fun t => (t.info, t.trace))) =
      some (some (.bus 0xD0 1 0), [.rq 0xD0 1 0]) := by decide
theorem test_read_cal_short :
    ((after (exec .readCal { ready with replies := [⟨21, payloadEx⟩] })).map (fun t => (t.status, t.cal))) =
      some (some .bus, calEx) := by decide

/-! ## Host operations, vectors L2-S and programs 1, 4, 5 and 6 -/

theorem test_begin :
    ((after (exec .beginOp { State.reset with replies := [⟨1, [0x55]⟩, ⟨22, payloadEx⟩] })).map
      (fun t => (t.session, t.cal, t.status, t.value, t.step))) =
      some (.ready, calEx, some .ok, none, .idle) := by decide
theorem test_begin_wrong_id :
    ((after (exec .beginOp { ready with replies := [⟨1, [0x00]⟩] })).map
      (fun t => (t.session, t.cal, t.status, t.trace))) =
      some (.uninit, calEx, some .idMismatch, [.rq 0xD0 1 1, .rd 0x00]) := by decide
theorem test_get_pressure_not_ready :
    ((after (exec (.getPressure 0) State.reset)).map (fun t => (t.status, t.value, t.trace))) =
      some (some .notReady, none, []) := by decide
theorem test_get_pressure_trace :
    ((after (exec (.getPressure 0) (answering ⟨2, [0x6C, 0xFA]⟩ ⟨3, [0x5D, 0x23, 0x00]⟩))).map (·.trace)) =
      some [.wr 0xF4 0x2E, .wait 5, .rq 0xF6 2 2, .rd 0x6C, .rd 0xFA, .wr 0xF4 0x34, .wait 5, .rq 0xF6 3 3,
        .rd 0x5D, .rd 0x23, .rd 0x00] := by decide
theorem test_get_pressure_result :
    ((after (exec (.getPressure 7) (answering ⟨2, [0x6C, 0xFA]⟩ ⟨3, [0x5D, 0x23, 0x00]⟩))).map
      (fun t => (t.status, t.value, t.lastT, t.lastTValid, t.oss))) =
      some (some .ok, some 69963, some 150, true, some 3) := by decide
theorem test_get_pressure_second_branch :
    ((after (exec (.getPressure 0) (answering ⟨2, [0x6C, 0xFA]⟩ ⟨3, [0x00, 0x64, 0x00]⟩))).map
      (fun t => (t.status, t.value))) = some (some .ok, some 253019) := by decide
theorem test_get_pressure_keeps_cache :
    ((after (exec (.getPressure 1)
      { answering ⟨2, [0x3A, 0x98]⟩ ⟨2, [0, 0]⟩ with lastT := some 150, lastTValid := true })).map (fun t => (t.status, t.t, t.lastT, t.lastTValid))) =
      some (some .bus, some (-298), some 150, true) := by decide
theorem test_get_last_sentinel :
    ((after (exec .getLastTemperature ready)).map (fun t => (t.status, t.value))) =
      some (some .ok, some (-32768)) := by decide
theorem test_get_last_value :
    ((after (exec .getLastTemperature { ready with lastT := some 150, lastTValid := true })).map (·.value)) =
      some (some 150) := by decide
theorem test_reserved_refused (s : State) : exec .reservedHost s = .refused .reservedSelector := rfl

/-! ## Steps -/

theorem test_step_starts_get_pressure :
    ((after (step { ready with hostQ := [⟨1, 7⟩] })).map (fun t => (t.step, t.modeIn, t.trace))) =
      some (.g0, 7, []) := by decide
theorem test_step_wait_is_one_step :
    ((after (step { ready with step := .g3 })).map (fun t => (t.step, t.trace))) = some (.g4, [.wait 5]) := by decide
theorem test_read_ports_after_reset :
    (match readStatus State.reset with | .error r => some r | .ok _ => none) = some (.unwritten .status) := by rfl

theorem test_step_waits : after (step State.reset) = some State.reset := by decide
theorem test_step_runs_start_p :
    ((after (step (State.reset.withFetchWord 8 0xB4))).map (·.trace)) = some [.wr 0xF4 0xB4] := by decide
theorem test_step_runs_get_last :
    ((after (step (State.reset.withFetchWord 8 2))).map (·.status)) = some (some .notReady) := by decide
theorem test_step_unwritten : stopped (step { State.reset with step := .t1 }) = some (.unwritten .ut) := by decide
theorem test_step_refuses_reserved (s : State) : step (s.withFetchWord 8 3) = .refused .reservedSelector := by
  cases s; rfl


/-! ## Witnesses: for each statement with hypotheses, concrete states and operands that meet them, one conjunct a clause
(a name ends in the statement's name) -/

/-- An outcome whose next state has a property goes on in a state that has it. -/
theorem next_of_after {o : Out} {α : Type} {f : State → α} {a : α} (h : (after o).map f = some a) :
    ∃ t, o = .next t ∧ f t = a := by
  cases o with
  | next t => exact ⟨t, rfl, by simpa [after] using h⟩
  | fault => simp [after] at h
  | refused => simp [after] at h

/-- A wait capability that returns for 5 and never for 26. -/
def hangsAt26 : WaitCap := { hangsAt := [26] }

/-- The calibration integers of L1-1 (the table of 95_test_vectors.md). -/
def calExInts : CalInts :=
  { ac1 := 408, ac2 := -72, ac3 := -14383, ac4 := 32741, ac5 := 32757, ac6 := 23153, b1 := 6190, b2 := 4,
    mb := -32768, mc := -8711, md := 2868 }

theorem test_payload_ints : payloadInts payloadEx = calExInts := by decide

/-- A state inside GET_PRESSURE, at G.6, that meets the invariant. -/
def atG6 : State := { ready with step := .g6, oss := some 3, ut := some 27898, latch := [0x6C, 0xFA] }

/-- A state at G.11 that meets the invariant. -/
def atG11 : State :=
  { ready with step := .g11, oss := some 0, b5 := some 2400, t := some 150, up := some 23843,
               latch := [0x5D, 0x23, 0x00] }

/-- A host that presents one operation at IDLE, to run whole. -/
def presenting (opSel : BitVec 2) (modeIn : Byte) (s : State) : State :=
  { s with hostQ := [{ opSel := opSel, modeIn := modeIn }], grain := .operation }

/-- A host that presents one operation at IDLE, to run one statement a step. -/
def starting (opSel : BitVec 2) (modeIn : Byte) (s : State) : State :=
  { s with hostQ := [{ opSel := opSel, modeIn := modeIn }], grain := .statement }

/-- The transport's answers to a BEGIN that succeeds. -/
def beginning : State := { State.reset with replies := [⟨1, [0x55]⟩, ⟨22, payloadEx⟩] }

theorem witness_decoded_bytes :
    decodeBytes .cmd8 [0xF4] = .ok (.startP 3) ∧ decodeBytes .rd [22, 0xAA] = .ok .readCal ∧
    decodeBytes .host [1, 255] = .ok (.getPressure 255) ∧ decodeBytes (.step .p15) [] = .ok .p15 :=
  ⟨rfl, rfl, rfl, rfl⟩

theorem witness_listed_words : decode (.cmd8 0xF4) = .ok (.startP 3) ∧ decode (.rd 0xF603) = .ok .readUp :=
  ⟨rfl, rfl⟩

theorem witness_step_runs :
    (fetch atG6 = .code (.sel .g6) ∧ decode (.sel .g6) = .ok .compT) ∧
    ((presenting 1 255 ready).step = .idle ∧ (presenting 1 255 ready).hostQ = [⟨1, 255⟩] ∧
      (presenting 1 255 ready).grain = .operation ∧ fetch (presenting 1 255 ready) = .code (.host 1 255) ∧
      decode (.host 1 255) = .ok (.getPressure 255)) ∧
    (firstLabel .compT = none ∧ fetch (starting 1 255 ready) = .code (.host 1 255) ∧
      (starting 1 255 ready).grain = .statement ∧ firstLabel (.getPressure 255) = some .g0) ∧
    atG6.step ≠ .idle := ⟨⟨rfl, rfl⟩, ⟨rfl, rfl, rfl, rfl, rfl⟩, ⟨rfl, rfl, rfl, rfl⟩, by decide⟩

theorem witness_labels (l : Label) :
    (enter l { ready with oss := some 3 }).step = l ∧ (enter l { ready with oss := some 3 }).oss = some 3 := ⟨rfl, rfl⟩

theorem witness_placed : decodeTableWord 8 0xF4 = some (.startP 3) ∧ decodeTableWord 24 0xAA16 = some .readCal := by
  decide

theorem witness_idle : State.reset.step = .idle ∧ State.reset.hostQ = [] := ⟨rfl, rfl⟩

theorem witness_sequence :
    ((enter .b1 State.reset).step = .b1 ∧ (enter .b6 State.reset).step = .b6) ∧
    ((enter .g0 ready).step = .g0 ∧ (enter .l0 ready).step = .l0 ∧ ready.session = .ready) ∧
    ((enter .g0 State.reset).step = .g0 ∧ (enter .l0 State.reset).step = .l0 ∧ State.reset.session = .uninit) ∧
    (∃ s : State, s.step = .g12 ∧ s.t = some 150 ∧ s.pres = some 69964) ∧
    (∃ s : State, s.step = .l1 ∧ s.lastTValid = false) ∧ (∃ s : State, s.step = .l1 ∧ s.lastTValid = true) ∧
    (∃ s : State, s.step = .l2 ∧ s.lastT = some 150) :=
  ⟨by decide, by decide, by decide, ⟨{ ready with step := .g12, t := some 150, pres := some 69964 }, by decide⟩,
    ⟨{ ready with step := .l1 }, by decide⟩, ⟨{ ready with step := .l1, lastTValid := true }, by decide⟩,
    ⟨{ ready with step := .l2, lastT := some 150 }, by decide⟩⟩

theorem witness_invariant :
    (atG6.inv = true ∧ ∃ t, step atG6 = .next t ∧ t.step = .g7) ∧
    (atG11.inv = true ∧ ∃ t, step atG11 = .next t ∧ t.step = .g12) ∧
    (beginning.inv = true ∧ ∃ t, step (presenting 0 0 beginning) = .next t ∧ t.session = .ready) :=
  ⟨⟨by decide, next_of_after (f := (·.step)) (by decide)⟩, ⟨by decide, next_of_after (f := (·.step)) (by decide)⟩,
    ⟨by decide, next_of_after (f := (·.session)) (by decide)⟩⟩

theorem witness_no_unwritten_read :
    atG11.inv = true ∧ (∀ n ∈ [5, 8, 14, 26], callWait atG11.waitCap n = .returns) ∧ ¬ atG11.presents 0b11 :=
  ⟨by decide, by decide, fun h => absurd h.1 (by decide)⟩

theorem witness_arithmetic :
    (3 : Nat) ≤ 3 ∧ (31 : Nat) ≤ 31 ∧ (-1 : W32) ≠ 0 ∧ (0x80000000 : W32).toInt = -2147483648 ∧
    ¬ ((-2147483648 : W32).toInt = -2147483648 ∧ (1 : W32).toInt = -1) := by decide

theorem witness_t1 : atG6.ut = some 27898 ∧ atG6.cal.ac5 = some 0x7FF5 ∧ atG6.cal.ac6 = some 0x5A71 := by decide

theorem witness_t2 :
    ({ ready with x1 := some 4743 }.x1 = some 4743 ∧ ready.cal.mc = some 0xDDF9 ∧ ready.cal.md = some 0x0B34) ∧
    refD (4743 : W32).toInt (0x0B34 : Half).toInt ≠ 0 ∧ refD (-2868 : W32).toInt (0x0B34 : Half).toInt = 0 := by decide

/-- The zero divisors with the operand that is not reached unwritten (R162, R191: the test comes first). -/
theorem witness_zero_divisors_alone :
    (∃ t, exec .t2 { State.reset with x1 := some (-2868), cal := { Cal.unwritten with md := some 0x0B34 } } = .next t ∧
      t.status = some .div0Temp) ∧
    (∃ t, exec .p11 { State.reset with b4 := some 0 } = .next t ∧ t.status = some .div0Pres) :=
  ⟨next_of_after (f := (·.status)) (by decide), next_of_after (f := (·.status)) (by decide)⟩

theorem witness_t3_t4_sums :
    let s : State := { ready with x1 := some 4743, x2 := some (-2343), x3 := some 717, b5 := some 2400, b6 := some (-1600) }
    s.x1 = some 4743 ∧ s.x2 = some (-2343) ∧ s.x3 = some 717 ∧ s.b5 = some 2400 ∧ s.b6 = some (-1600) := by decide

theorem witness_temperature_pass :
    (atG6.ut = some 27898 ∧ atG6.cal.ac5 = some 0x7FF5 ∧ atG6.cal.ac6 = some 0x5A71 ∧ atG6.cal.mc = some 0xDDF9 ∧
      atG6.cal.md = some 0x0B34) ∧
    refX1 27898 32757 23153 = 4743 ∧ refD 4743 2868 ≠ 0 ∧ refD 4743 (0xED79 : Half).toInt = 0 := by decide

theorem witness_pressure_steps :
    let s : State := { ready with oss := some 3, up := some 0x7FFFF, b3 := some 422, x3 := some (-32768),
                                  b4 := some 0, b7 := some 0x80000000, p := some (-1), x1 := some 3454, x2 := some (-7859) }
    s.cal.ac1 = some 0x0198 ∧ s.cal.ac2 = some 0xFFB8 ∧ s.cal.ac3 = some 0xC7D1 ∧ s.cal.ac4 = some 0x7FE5 ∧
    s.cal.b1 = some 0x182E ∧ s.cal.b2 = some 4 ∧ s.oss = some 3 ∧ s.up = some 0x7FFFF ∧ s.b3 = some 422 ∧
    s.x3 = some (-32768) ∧ s.b4 = some 0 ∧ s.b7 = some 0x80000000 ∧ s.p = some (-1) ∧ s.x1 = some 3454 ∧
    s.x2 = some (-7859) := by decide

theorem witness_p11 :
    (∃ s : State, s.b7 = some 0x7FFFFFFF ∧ s.b4 = some 1) ∧ (∃ s : State, s.b7 = some 0x80000000 ∧ s.b4 = some 131071) ∧
    (∃ s : State, s.b7 = some 0 ∧ s.b4 = some 0) ∧ (1 : W32).toNat ≠ 0 ∧ (131071 : W32).toNat ≠ 0 ∧ (0 : W32).toNat = 0 :=
  ⟨⟨{ ready with b7 := some 0x7FFFFFFF, b4 := some 1 }, by decide⟩,
    ⟨{ ready with b7 := some 0x80000000, b4 := some 131071 }, by decide⟩,
    ⟨{ ready with b7 := some 0, b4 := some 0 }, by decide⟩, by decide⟩

theorem witness_p9_zero :
    ((after (exec .p9 { deadAc4 with x3 := some 0 })).map (·.b4)) = some (some 0) ∧
    ((after (exec .p9 { ready with x3 := some (-32768) })).map (·.b4)) = some (some 0) ∧
    ((after (exec .p9 { ready with x3 := some (-32766) })).map (·.b4)) = some (some 1) ∧
    U32 ((-32768 : W32).toInt + 32768) = 0 := by decide

theorem witness_pressure_pass :
    (atG11.cal.ac1 = some 0x0198 ∧ atG11.cal.ac2 = some 0xFFB8 ∧ atG11.cal.ac3 = some 0xC7D1 ∧
      atG11.cal.ac4 = some 0x7FE5 ∧ atG11.cal.b1 = some 0x182E ∧ atG11.cal.b2 = some 4 ∧ atG11.b5 = some 2400 ∧
      atG11.up = some 23843 ∧ atG11.oss = some 0) ∧
    refB4 32741 (refX3High (-14383) 6190 (refB6 2400)) = 33457 ∧ refB4 0 (refX3High (-14383) 6190 (refB6 2400)) = 0 := by
  decide

theorem witness_check_id :
    latched { ready with latch := [0x55] } 0 = 0x55 ∧ latched { ready with latch := [0x54] } 0 ≠ 0x55 ∧
    { ready with latch := [0x54] }.latch = 0x54 :: [] := by decide

theorem witness_unpack_cal : { ready with latch := payloadEx }.latch.length = 22 := by decide

theorem witness_asm_up (oss : BitVec 2) : { ready with oss := some oss }.oss = some oss := rfl

theorem witness_select_delay :
    let s : State := { ready with waitCap := hangsAt26, oss := some 3 }
    callWait s.waitCap 5 = .returns ∧ callWait ready.waitCap (refDelay 3) = .returns ∧
    callWait s.waitCap (refDelay (3 : BitVec 2).toNat) = .hangs ∧ s.oss = some 3 ∧
    callWait { hangsAt := [5] } 5 = .hangs := by decide

theorem witness_reads :
    (readOf .readCal = some (0xAA, 22) ∧ answerCount { ready with replies := [⟨22, payloadEx⟩] } 22 = 22) ∧
    (payloadEx.length ≤ 22 ∧ { ready with replies := [⟨22, payloadEx⟩] }.replies = ⟨22, payloadEx⟩ :: []) ∧
    (readOf .readUp = some (0xF6, 3) ∧ answerCount { ready with replies := [⟨2, [0x5D, 0x23]⟩] } 3 < 3) ∧
    (readOf .readId = some (0xD0, 1) ∧ answerCount { ready with replies := [⟨0, []⟩] } 1 < 1) := by decide

theorem witness_begin :
    beginning.replies = ⟨1, [0x55]⟩ :: ⟨22, payloadEx⟩ :: [] ∧ 1 ≤ 1 ∧ 22 ≤ 22 ∧ payloadEx.length = 22 := by decide

theorem witness_get_pressure_not_ready : State.reset.session = .uninit := rfl

theorem ready_holds : ready.cal.holds calExInts := by
  unfold Cal.holds
  decide

/-- READY with CAL-EX and the answers of L1-1. -/
def answered : State := answering ⟨2, [0x6C, 0xFA]⟩ ⟨3, [0x5D, 0x23, 0x00]⟩

theorem witness_get_pressure :
    answered.session = .ready ∧
    (callWait answered.waitCap 5 = .returns ∧ callWait answered.waitCap (refDelay 0) = .returns ∧
      callWait answered.waitCap (refDelay 3) = .returns) ∧ answered.cal.holds calExInts ∧
    answered.replies = ⟨2, [0x6C, 0xFA]⟩ :: ⟨3, [0x5D, 0x23, 0x00]⟩ :: [] ∧
    refCompT calExInts 27898 = some (4743, -2343, 2400, 150) ∧
    refCompP calExInts 2400 (refUp 0x5D 0x23 0x00 0) 0 = some (70003, 69964) ∧
    refCompP calExInts 2400 (refUp 0x5D 0x23 0x00 (min (255 : Byte).toNat 3)) (min (255 : Byte).toNat 3) =
      some (70002, 69963) :=
  ⟨rfl, by decide, ready_holds, rfl, by decide, by decide, by decide⟩

theorem witness_get_pressure_zero_divisors :
    (∃ cal : Cal, cal.holds { calExInts with md := -4743 } ∧ refCompT { calExInts with md := -4743 } 27898 = none) ∧
    (deadAc4.cal.holds { calExInts with ac4 := 0 } ∧
      refCompT { calExInts with ac4 := 0 } 27898 = some (4743, -2343, 2400, 150) ∧
      refCompP { calExInts with ac4 := 0 } 2400 (refUp 0x5D 0x23 0x00 0) 0 = none) := by
  unfold Cal.holds
  exact ⟨⟨{ calEx with md := some 0xED79 }, by decide⟩, by decide⟩

theorem witness_get_pressure_commits :
    (∃ t, exec (.getPressure 0) answered = .next t ∧ t.status = some .ok) ∧
    (∃ t, exec (.getPressure 0) { answered with replies := [⟨1, [0]⟩] } = .next t ∧ t.status = some .bus) ∧
    (∃ t, exec (.getPressure 0) State.reset = .next t ∧ t.status = some .notReady) :=
  ⟨next_of_after (f := (·.status)) (by decide), next_of_after (f := (·.status)) (by decide),
    next_of_after (f := (·.status)) (by decide)⟩

theorem witness_get_last_temperature :
    State.reset.session = .uninit ∧ (ready.session = .ready ∧ ready.lastTValid = false) ∧
    (let s : State := { ready with lastT := some 150, lastTValid := true }
     s.session = .ready ∧ s.lastTValid = true ∧ s.lastT = some 150) := by decide

theorem witness_reserved : (presenting 3 0 ready).presents 0b11 := ⟨rfl, 0, [], rfl⟩

theorem witness_host_operations_end :
    isHostOp .beginOp = true ∧ (∃ t, exec .beginOp beginning = .next t ∧ t.status = some .ok) ∧
    isHostOp (.getPressure 255) = true ∧
    (∃ t, exec (.getPressure 255) (presenting 2 0 answered) = .next t ∧ (t.status, t.hostQ) = (some .ok, [⟨2, 0⟩])) ∧
    isHostOp .getLastTemperature = true ∧
    (∃ t, exec .getLastTemperature ready = .next t ∧ t.status = some .ok) :=
  ⟨rfl, next_of_after (f := (·.status)) (by decide), rfl, next_of_after (f := fun t => (t.status, t.hostQ)) (by decide),
    rfl, next_of_after (f := (·.status)) (by decide)⟩

/-- `answered` with AC4 = 0 (vector P-8). -/
def zeroB4 : State := { answered with cal := { calEx with ac4 := some 0 } }

/-- `answered` with MD = -4743 (program 4 of 95_test_vectors.md). -/
def zeroSum : State := { answered with cal := { calEx with md := some 0xED79 } }

/-- NoSilentFailure, the two zero divisors: the runs meet the clauses' premises and end with their status. -/
theorem witness_silent_failure_zero_divisors :
    (∃ t, exec (.getPressure 0) zeroSum = .next t ∧
      (t.trace, t.ut, t.cal, t.status) = ([.wr 0xF4 0x2E, .wait 5, .rq 0xF6 2 2, .rd 0x6C, .rd 0xFA], some 27898,
        { calEx with md := some 0xED79 }, some .div0Temp)) ∧
    (calEx.ac5 = some 0x7FF5 ∧ calEx.ac6 = some 0x5A71 ∧
      refD (refX1 27898 (0x7FF5 : Half).toNat (0x5A71 : Half).toNat) (0xED79 : Half).toInt = 0) ∧
    (∃ t, exec (.getPressure 0) zeroB4 = .next t ∧
      (decide (.rq 0xF6 3 3 ∈ t.trace), t.b4, t.status) = (true, some 0, some .div0Pres)) :=
  ⟨next_of_after (f := fun t => (t.trace, t.ut, t.cal, t.status)) (by decide), by decide,
    next_of_after (f := fun t => (decide (.rq 0xF6 3 3 ∈ t.trace), t.b4, t.status)) (by decide)⟩

/-- NoSilentFailure, the other failures and E_OK. -/
theorem witness_silent_failure_others :
    (∃ t, exec (.getPressure 0) State.reset = .next t ∧ t.status = some .notReady) ∧
    (∃ t, exec (.getPressure 0) { answered with replies := [⟨1, [0]⟩] } = .next t ∧
      (t.trace, t.status) = ([.wr 0xF4 0x2E, .wait 5, .rq 0xF6 2 1], some .bus)) ∧
    (∃ t, exec .beginOp { State.reset with replies := [⟨1, [0x54]⟩] } = .next t ∧
      (t.trace, t.status) = ([.rq 0xD0 1 1, .rd 0x54], some .idMismatch)) ∧
    (∃ t, exec .beginOp beginning = .next t ∧
      (t.trace.take 3, t.status) = ([.rq 0xD0 1 1, .rd 0x55, .rq 0xAA 22 22], some .ok)) ∧
    (∃ t, exec (.getPressure 0) answered = .next t ∧
      (t.ut, t.b4, t.status) = (some 27898, some 33457, some .ok)) :=
  ⟨next_of_after (f := (·.status)) (by decide), next_of_after (f := fun t => (t.trace, t.status)) (by decide),
    next_of_after (f := fun t => (t.trace, t.status)) (by decide),
    next_of_after (f := fun t => (t.trace.take 3, t.status)) (by decide),
    next_of_after (f := fun t => (t.ut, t.b4, t.status)) (by decide)⟩

theorem witness_session_changes :
    (∃ t, step (presenting 0 0 beginning) = .next t ∧ t.session = .ready) ∧ beginning.session = .uninit ∧
    (∃ t, step (enter .b1 ready) = .next t ∧ t.session = .uninit) ∧ ready.session = .ready :=
  ⟨next_of_after (f := (·.session)) (by decide), rfl, next_of_after (f := (·.session)) (by decide), rfl⟩

theorem witness_cal_and_cache_change :
    (∃ t, step (presenting 0 0 beginning) = .next t ∧ t.cal = calEx) ∧
    (∃ t, step (presenting 1 0 answered) = .next t ∧ (t.lastT, t.lastTValid) = (some 150, true)) ∧
    (∃ t, step (presenting 0 0 { beginning with lastTValid := true, lastT := some 150 }) = .next t ∧
      t.lastTValid = false) :=
  ⟨next_of_after (f := (·.cal)) (by decide), next_of_after (f := fun t => (t.lastT, t.lastTValid)) (by decide),
    next_of_after (f := (·.lastTValid)) (by decide)⟩

theorem witness_bus_legal : ∃ t, step (presenting 1 3 answered) = .next t ∧ t.trace.length = 11 :=
  next_of_after (f := (·.trace.length)) (by decide)

theorem witness_high_modes :
    3 ≤ (3 : Byte).toNat ∧ 3 ≤ (255 : Byte).toNat ∧
    (∃ t, exec (.getPressure 255) answered = .next t ∧ t.value = some 69963) ∧
    stopped (exec (.getPressure 255) { answered with waitCap := hangsAt26 }) = some .waitHangs :=
  ⟨by decide, by decide, next_of_after (f := (·.value)) (by decide), by decide⟩

theorem witness_stale_registers :
    let s' : State := { answered with cal := { calEx with mb := some 0 }, ut := some 1, oss := some 0, b5 := some 2,
                                      rxq := [7], latch := [8], p := some 9 }
    answered.sameInputs s' ∧ ∃ t, exec (.getPressure 0) answered = .next t ∧ t.value = some 69964 :=
  ⟨by unfold State.sameInputs; decide, next_of_after (f := (·.value)) (by decide)⟩

theorem witness_statement_by_statement :
    ((starting 0 0 beginning).step = .idle ∧ (starting 0 0 beginning).hostQ = [⟨0, 0⟩] ∧
      (starting 0 0 beginning).grain = .statement) ∧
    ((starting 1 255 answered).step = .idle ∧ (starting 1 255 answered).hostQ = [⟨1, 255⟩]) ∧
    ((starting 2 0 ready).step = .idle ∧ (starting 2 0 ready).hostQ = [⟨2, 0⟩]) ∧
    (∃ t, step { ready with step := .g8, oss := some 3 } = .next t ∧ t.trace = [.wait 26]) :=
  ⟨⟨rfl, rfl, rfl⟩, ⟨rfl, rfl⟩, ⟨rfl, rfl⟩, next_of_after (f := (·.trace)) (by decide)⟩

theorem witness_host_reads :
    (∃ t, exec .beginOp beginning = .next t ∧ (t.status, t.value) = (some .ok, none)) ∧
    (∃ t, exec (.getPressure 0) answered = .next t ∧ (t.status, t.value) = (some .ok, some 69964)) ∧
    (∃ t, exec .getLastTemperature State.reset = .next t ∧ (t.status, t.value) = (some .notReady, none)) :=
  ⟨next_of_after (f := fun t => (t.status, t.value)) (by decide),
    next_of_after (f := fun t => (t.status, t.value)) (by decide),
    next_of_after (f := fun t => (t.status, t.value)) (by decide)⟩

end Sys2Proof.Tests
end

/-! Proofs of the statements of 40_arith.md: the right shifts (R134, R135) and the unsigned division (R139). -/

namespace Sys2Proof.Machine

/-- The pattern operation fills with the sign bit, so it rounds toward minus infinity, as `Int` division by a positive
number does (R134). -/
@[simp] theorem toInt_asr (v : W32) (n : Nat) : (asr v n).toInt = v.toInt / 2 ^ n := by
  simp [asr, BitVec.toInt_sshiftRight, Int.shiftRight_eq_div_pow]

@[simp] theorem toNat_lsr (v : W32) (n : Nat) : (lsr v n).toNat = v.toNat / 2 ^ n := by
  simp [lsr, BitVec.toNat_ushiftRight, Nat.shiftRight_eq_div_pow]

@[simp] theorem toNat_udiv (a b : W32) : (udiv a b).toNat = a.toNat / b.toNat :=
  BitVec.toNat_udiv

/-- Settles O14: `asr` is floor division of the signed reading and `lsr` of the unsigned reading, whatever the count. -/
theorem rightShiftsAreFloorDivisions : Obligations.RightShiftsAreFloorDivisions :=
  fun v n _ => ⟨toInt_asr v n, toNat_lsr v n⟩

/-- Settles O16: the pattern division is the quotient of the unsigned readings; the zero divisor that R142 leaves out
needs no case of its own. -/
theorem unsignedDivisionFloors : Obligations.UnsignedDivisionFloors :=
  fun a b _ => toNat_udiv a b

end Sys2Proof.Machine

/-! Proofs of the statements of 42_pressure.md: P3, P6 and P7 (R183, R186, R187), and P12, P13 and P14 (R192 to R194).
Each is assembled from what the step writes, as a pattern, and from the integer reading of the primitives in it. -/

namespace Sys2Proof.Machine

/-! ## The integer reading of the primitives -/

/-- `S32` of R10 is the library's balanced remainder, in which `BitVec.toInt` of a wrapped result is stated. -/
theorem S32_eq_bmod (v : Int) : S32 v = v.bmod (2 ^ 32) := by
  rw [S32, Int.bmod_def]
  omega

@[simp] theorem toInt_mul32 (a b : W32) : (mul32 a b).toInt = S32 (a.toInt * b.toInt) := by
  rw [mul32, BitVec.toInt_mul, S32_eq_bmod]

@[simp] theorem toInt_sext16 (h : Half) : (sext16 h).toInt = h.toInt :=
  BitVec.toInt_signExtend_of_le (by decide)

/-- The common term of P2 and P7, on the pattern and over the integers (R182, R187). -/
theorem toInt_square (b6 : W32) : (asr (mul32 b6 b6) 12).toInt = refSquare b6.toInt := by
  simp [refSquare]

/-! ## What a step writes where its operands are written -/

section
variable {s : State} {b6 p x1 : W32} {c : Half}

theorem exec_p3 (hb6 : s.b6 = some b6) (hc : s.cal.ac2 = some c) :
    exec .p3 s = .next { s with x2 := some (asr (mul32 (sext16 c) b6) 11), step := nextLabel s.step } := by
  simp [exec, execP3, advance, hb6, hc]

theorem exec_p6 (hb6 : s.b6 = some b6) (hc : s.cal.ac3 = some c) :
    exec .p6 s = .next { s with x1 := some (asr (mul32 (sext16 c) b6) 13), step := nextLabel s.step } := by
  simp [exec, execP6, advance, hb6, hc]

theorem exec_p7 (hb6 : s.b6 = some b6) (hc : s.cal.b1 = some c) :
    exec .p7 s = .next { s with x2 := some (asr (mul32 (sext16 c) (asr (mul32 b6 b6) 12)) 16),
                                step := nextLabel s.step } := by
  simp [exec, execP7, advance, hb6, hc]

theorem exec_p12 (hp : s.p = some p) :
    exec .p12 s = .next { s with x1 := some (mul32 (asr p 8) (asr p 8)), step := nextLabel s.step } := by
  simp [exec, execP12, advance, hp]

theorem exec_p13 (hx1 : s.x1 = some x1) :
    exec .p13 s = .next { s with x1 := some (asr (mul32 x1 3038) 16), step := nextLabel s.step } := by
  simp [exec, execP13, advance, hx1]

theorem exec_p14 (hp : s.p = some p) :
    exec .p14 s = .next { s with x2 := some (asr (mul32 (-7357) p) 16), step := nextLabel s.step } := by
  simp [exec, execP14, advance, hp]

end

/-! ## The statements -/

/-- Settles O25: the product is read by `toInt_mul32`, the shift by `toInt_asr`, and P7's second factor is the common
term of P2 and P7. -/
theorem p3P6P7ShiftSignedProducts : Obligations.P3P6P7ShiftSignedProducts := by
  refine ⟨fun s b6 ac2 hb6 hc => ⟨_, exec_p3 hb6 hc, ?_⟩, fun s b6 ac3 hb6 hc => ⟨_, exec_p6 hb6 hc, ?_⟩,
    fun s b6 b1 hb6 hc => ⟨_, exec_p7 hb6 hc, ?_⟩⟩
  · rw [toInt_asr, toInt_mul32, toInt_sext16]; rfl
  · rw [toInt_asr, toInt_mul32, toInt_sext16]; rfl
  · rw [toInt_asr, toInt_mul32, toInt_sext16, toInt_square]; rfl

/-- Settles O32: P12 squares the shifted pressure, P13 and P14 scale by a constant before they shift. -/
theorem p12P13P14ScaleThePressure : Obligations.P12P13P14ScaleThePressure := by
  refine ⟨fun s p hp => ⟨_, exec_p12 hp, ?_⟩, fun s x1 hx1 => ⟨_, exec_p13 hx1, ?_⟩,
    fun s p hp => ⟨_, exec_p14 hp, ?_⟩⟩
  · rw [toInt_mul32, toInt_asr]; rfl
  · rw [toInt_asr, toInt_mul32]; rfl
  · rw [toInt_asr, toInt_mul32]; rfl

end Sys2Proof.Machine

/-! Proof of the statement of 60_exceptions.md: a fault met ends with its own status, and E_OK means every test was made
and passed (R309). First how an operation can end (`GetPressureEnd`, `BeginEnd`,
`getLastTemperature_ends`), with what it asked of the transport; then the statement, clause by clause, from that. -/

namespace Sys2Proof.Machine

/-! ## Running a stretch of a listing -/

theorem runSeq_cons_next {f : State → Out} {fs : List (State → Out)} {s t : State}
    (h : runSeq (f :: fs) s = .next t) : ∃ s', f s = .next s' := by
  obtain ⟨s', hs', -⟩ := runSeq_cons_cases h
  exact ⟨s', hs'⟩

section
variable {g : State → State} {fs : List (State → Out)} {s s' : State}

/-! A statement that always answers a next state, at the head of a listing. -/

theorem runSeq_total_stop (h : g s = s') (hi : s'.step = .idle) :
    runSeq ((fun s => .next (g s)) :: fs) s = .next s' :=
  runSeq_cons_stop (congrArg Host.Outcome.next h) hi

theorem runSeq_total_go (h : g s = s') (hi : s'.step ≠ .idle) :
    runSeq ((fun s => .next (g s)) :: fs) s = runSeq fs s' :=
  runSeq_cons_go (congrArg Host.Outcome.next h) hi

end

/-- A stretch of statements that each go on to the next label, none of them IDLE, runs to its end, and a relation that
each has, and that composes, holds across it. -/
theorem runSeq_advancing {R : State → State → Prop} (refl : ∀ s, R s s) (trans : ∀ s t u, R s t → R t u → R s u)
    {fs gs : List (State → Out)} (hf : ∀ f ∈ fs, ∀ s t, f s = .next t → t.step = nextLabel s.step ∧ R s t)
    {s t : State} (hl : ∀ k < fs.length, nextLabel^[k + 1] s.step ≠ .idle) (h : runSeq (fs ++ gs) s = .next t) :
    ∃ u, u.step = nextLabel^[fs.length] s.step ∧ R s u ∧ runSeq gs u = .next t := by
  induction fs generalizing s with
  | nil => exact ⟨s, rfl, refl s, h⟩
  | cons f fs ih =>
    obtain ⟨s', hs'⟩ := runSeq_cons_next h
    obtain ⟨hstep, hR⟩ := hf f (by simp) _ _ hs'
    rw [List.cons_append, runSeq_cons_go hs' (hstep ▸ hl 0 (by simp))] at h
    obtain ⟨u, hu, hRu, hrun⟩ := ih (fun g hg => hf g (by simp [hg]))
      (fun k hk => by simpa [hstep] using hl (k + 1) (by simpa using hk)) h
    exact ⟨u, by simpa [hstep] using hu, trans _ _ _ hR hRu, hrun⟩

/-- A BusRead in a listing (R76, R229): a short answer ends the listing with E_BUS; a full one is latched, and the rest
of the listing runs. CAL and UT are as before. -/
theorem runSeq_busRead_cases {reg : Byte} {n : Nat} {fs : List (State → Out)} {s t : State}
    (hl : nextLabel s.step ≠ .idle) (h : runSeq ((fun s => .next (busRead reg n s)) :: fs) s = .next t) :
    (∃ a < n, t.status = some .bus ∧ t.cal = s.cal ∧ t.ut = s.ut ∧ t.trace = s.trace ++ [.rq reg n a]) ∨
    ∃ u, u.step = nextLabel s.step ∧ u.cal = s.cal ∧ u.ut = s.ut ∧ u.latch.length = n ∧
      u.trace = s.trace ++ readEvents reg u.latch ∧ runSeq fs u = .next t := by
  obtain ⟨hlt, he⟩ | ⟨-, he⟩ := busRead_cases reg n s
  · rw [runSeq_total_stop he rfl] at h
    cases h
    exact .inl ⟨_, hlt, rfl, rfl, rfl, rfl⟩
  · rw [runSeq_total_go he hl] at h
    refine .inr ⟨_, ?_, ?_, ?_, ?_, ?_, h⟩
    exacts [rfl, rfl, rfl, by simp, by simp [readEvents]]

/-- A listing that begins with the session test (R255, R259) ends with E_NOT_READY in UNINIT, and runs on in READY. -/
theorem runSeq_requireReady_cases {fs : List (State → Out)} {s t : State} (hl : nextLabel s.step ≠ .idle)
    (h : runSeq ((fun s => .next (requireReady s)) :: fs) s = .next t) :
    (s.session = .uninit ∧ t = raise .notReady s) ∨ (s.session = .ready ∧ runSeq fs (advance s) = .next t) := by
  cases hses : s.session with
  | uninit =>
    have he : requireReady s = raise .notReady s := by rw [requireReady, hses]
    rw [runSeq_total_stop he rfl] at h
    cases h
    exact .inl ⟨rfl, rfl⟩
  | ready =>
    have he : requireReady s = advance s := by rw [requireReady, hses]
    rw [runSeq_total_go he hl] at h
    exact .inr ⟨rfl, h⟩

/-! ## What is asked of the transport -/

/-- An entry of the bus trace that is a request to the transport (R74, R111). -/
def Event.isRequest : Event → Bool
  | .rq _ _ _ => true
  | .wr _ _ | .rd _ | .wait _ | .sel _ => false

theorem rq_mem_filter {es : List Event} {reg : Byte} {n a : Nat} :
    .rq reg n a ∈ es.filter Event.isRequest ↔ .rq reg n a ∈ es := by
  simp [List.mem_filter, Event.isRequest]

/-- From `s` to `t` the trace grew, and the requests among the added entries are `rs`. -/
def Requests (rs : List Event) (s t : State) : Prop :=
  ∃ es, t.trace = s.trace ++ es ∧ es.filter Event.isRequest = rs

theorem Requests.of_trace {s t : State} {es : List Event} (h : t.trace = s.trace ++ es) :
    Requests (es.filter Event.isRequest) s t := ⟨es, h, rfl⟩

theorem Requests.trans {rs rs' : List Event} {s t u : State} (h : Requests rs s t) (k : Requests rs' t u) :
    Requests (rs ++ rs') s u := by
  obtain ⟨es, he, rfl⟩ := h
  obtain ⟨es', he', rfl⟩ := k
  exact ⟨es ++ es', by rw [he', he, List.append_assoc], List.filter_append ..⟩

/-- A completed read asked once, in full. -/
theorem Requests.of_read {s t : State} {reg : Byte} {n : Nat} {bs : List Byte} (hn : bs.length = n)
    (h : t.trace = s.trace ++ readEvents reg bs) : Requests [.rq reg n n] s t := by
  refine ⟨_, h, ?_⟩
  rw [readEvents, List.filter_cons_of_pos rfl, hn, List.filter_eq_nil_iff.2]
  simp [Event.isRequest]

/-! ## The statements that ask nothing -/

/-- Nothing was asked of the transport, and the operands of T1 and T2 that stand in UT and CAL are as before. -/
structure Quiet (s t : State) : Prop where
  cal : t.cal = s.cal
  ut : t.ut = s.ut
  requests : Requests [] s t

theorem Quiet.refl (s : State) : Quiet s s := ⟨rfl, rfl, [], by simp, rfl⟩

theorem Quiet.trans (s t u : State) (h : Quiet s t) (k : Quiet t u) : Quiet s u where
  cal := k.cal.trans h.cal
  ut := k.ut.trans h.ut
  requests := h.requests.trans k.requests

theorem Quiet.of_frame {s t : State} (h : Frame s t) (hut : t.ut = s.ut) : Quiet s t :=
  ⟨h.cal, hut, [], by simp [h.trace], rfl⟩

/-- Recording an entry that is no request is quiet, and so is the advance after it. -/
theorem quiet_record {e : Event} (he : e.isRequest = false) (s : State) : Quiet s (advance (record e s)) :=
  ⟨rfl, rfl, [e], rfl, by simp [he]⟩

theorem quiet_clamp {s t : State} (h : execClamp s = .next t) : t.step = nextLabel s.step ∧ Quiet s t := by
  have hframe := frame_clamp h
  cases h
  exact ⟨rfl, .of_frame hframe rfl⟩

theorem quiet_startT {s t : State} (h : execStartT s = .next t) : t.step = nextLabel s.step ∧ Quiet s t := by
  cases h
  exact ⟨rfl, quiet_record rfl s⟩

theorem quiet_g7 {s t : State} (h : stmtG7 s = .next t) : t.step = nextLabel s.step ∧ Quiet s t := by
  obtain ⟨oss, -, h⟩ := need_eq_next.1 h
  cases h
  exact ⟨rfl, quiet_record rfl s⟩

theorem quiet_wait {n : Nat} {s t : State} (h : wait n s = .next t) : t.step = nextLabel s.step ∧ Quiet s t := by
  obtain ⟨-, rfl⟩ := wait_eq_next.1 h
  exact ⟨rfl, quiet_record rfl s⟩

theorem quiet_selectDelay {conv : Conversion} {s t : State} (h : execSelectDelay conv s = .next t) :
    t.step = nextLabel s.step ∧ Quiet s t := by
  cases conv with
  | temperature => exact quiet_wait h
  | pressure =>
    obtain ⟨oss, -, h⟩ := need_eq_next.1 h
    exact quiet_wait h

theorem quiet_asmUp {s t : State} (h : execAsmUp s = .next t) : t.step = nextLabel s.step ∧ Quiet s t := by
  have hframe := frame_asmUp h
  obtain ⟨oss, -, h⟩ := need_eq_next.1 h
  cases h
  exact ⟨rfl, .of_frame hframe rfl⟩

/-! ## The divisor of T2 -/

theorem toInt_add32 (a b : W32) : (add32 a b).toInt = S32 (a.toInt + b.toInt) := by
  rw [add32, BitVec.toInt_add, S32_eq_bmod]

theorem toInt_sub32 (a b : W32) : (sub32 a b).toInt = S32 (a.toInt - b.toInt) := by
  rw [sub32, BitVec.toInt_sub, S32_eq_bmod]

theorem toInt_zext16 (h : Half) : (zext16 h).toInt = h.toNat := by
  rw [zext16, BitVec.toInt_eq_toNat_of_lt] <;> simp <;> omega

/-- The zero test of a divisor is on its value (R142). -/
theorem isZero_iff (v : W32) : isZero v = true ↔ v.toInt = 0 := by
  rw [isZero, beq_iff_eq, ← BitVec.toInt_inj]
  rfl

/-- The divisor of T2, X1 + MD, from the operands of T1 and T2 (R161, R162); none where one of them is unwritten. -/
def sumDivisor (s : State) : Option Int := do
  let ut ← s.ut
  let ac5 ← s.cal.ac5
  let ac6 ← s.cal.ac6
  let md ← s.cal.md
  return refD (refX1 ut.toNat ac5.toNat ac6.toNat) md.toInt

theorem sumDivisor_eq_some {s : State} {d : Int} :
    sumDivisor s = some d ↔ ∃ ut ac5 ac6 md : Half, s.ut = some ut ∧ s.cal.ac5 = some ac5 ∧ s.cal.ac6 = some ac6 ∧
      s.cal.md = some md ∧ refD (refX1 ut.toNat ac5.toNat ac6.toNat) md.toInt = d := by
  simp [sumDivisor, Option.bind_eq_some_iff]

theorem sumDivisor_congr {s t : State} (hut : t.ut = s.ut) (hcal : t.cal = s.cal) : sumDivisor t = sumDivisor s := by
  simp [sumDivisor, hut, hcal]

/-! ## How the two passes end -/

/-- T1 writes the X1 of the rules (R161). -/
theorem t1_writes_x1 {s t : State} (h : execT1 s = .next t) : t.step = nextLabel s.step ∧ t.ut = s.ut ∧
    ∃ x1 ut ac5 ac6, t.x1 = some x1 ∧ s.ut = some ut ∧ s.cal.ac5 = some ac5 ∧ s.cal.ac6 = some ac6 ∧
      x1.toInt = refX1 ut.toNat ac5.toNat ac6.toNat := by
  simp only [execT1, need_eq_next] at h
  obtain ⟨ut, hut, ac6, hac6, ac5, hac5, h⟩ := h
  cases h
  refine ⟨rfl, rfl, _, ut, ac5, ac6, rfl, hut, hac5, hac6, ?_⟩
  simp only [toInt_asr, toInt_mul32, toInt_sub32, toInt_zext16]
  rfl

/-- T2 ends the operation with E_DIV0_TEMP exactly where its divisor is zero (R162). -/
theorem t2_tests_divisor {s t : State} {x1 : W32} (hx1 : s.x1 = some x1) (h : execT2 s = .next t) : t.ut = s.ut ∧
    ∃ md, s.cal.md = some md ∧
      ((refD x1.toInt md.toInt = 0 ∧ t.status = some .div0Temp ∧ t.step = .idle) ∨
        (refD x1.toInt md.toInt ≠ 0 ∧ t.step = nextLabel s.step)) := by
  obtain ⟨x1', md, hx1', hmd, hcase⟩ := execT2_cases h
  cases hx1.symm.trans hx1'
  have hd : isZero (add32 x1 (sext16 md)) = true ↔ refD x1.toInt md.toInt = 0 := by
    rw [isZero_iff, toInt_add32, toInt_sext16, refD]
  obtain ⟨hz, rfl⟩ | ⟨hz, mc, -, rfl⟩ := hcase
  · exact ⟨rfl, md, hmd, .inl ⟨hd.1 hz, rfl, rfl⟩⟩
  · exact ⟨rfl, md, hmd, .inr ⟨fun h0 => by simp [hd.2 h0] at hz, rfl⟩⟩

/-- A claim on how a register read goes on is one on its continuation at the value read. -/
theorem forall_need_eq_next {α : Type} {r : RegName} {o : Option α} {k : α → Out} {P : State → Prop} :
    (∀ t, need r o k = .next t → P t) ↔ ∀ v, o = some v → ∀ t, k v = .next t → P t := by
  simp only [need_eq_next, forall_exists_index, and_imp]
  exact ⟨fun h v hv t => h t v hv, fun h t v hv => h v hv t⟩

theorem t3_t4_keep_ut : ∀ f ∈ [execT3, execT4], ∀ s t, f s = .next t → t.step = nextLabel s.step ∧ t.ut = s.ut := by
  simp [execT3, execT4, forall_need_eq_next]

/-- COMP_T ends the operation with E_DIV0_TEMP where its divisor is zero; else it goes on to G.7 (R160, R162). -/
theorem compT_ends {s t : State} (h : execCompT s = .next t) :
    Quiet s t ∧ ∃ d, sumDivisor s = some d ∧
      ((d = 0 ∧ t.status = some .div0Temp ∧ t.step = .idle) ∨ (d ≠ 0 ∧ t.step = .g7)) := by
  have hframe := frame_compT h
  rw [execCompT] at h
  obtain ⟨s₁, h₁⟩ := runSeq_cons_next h
  obtain ⟨hstep₁, hut₁, x1, ut, ac5, ac6, hx1, hut, hac5, hac6, hval⟩ := t1_writes_x1 h₁
  replace hstep₁ : s₁.step = .t2 := hstep₁
  rw [runSeq_cons_go h₁ (by rw [hstep₁]; decide)] at h
  obtain ⟨s₂, h₂⟩ := runSeq_cons_next h
  obtain ⟨hut₂, md, hmd, hcase⟩ := t2_tests_divisor hx1 h₂
  rw [(frame_t1 h₁).cal] at hmd
  have hsum : sumDivisor s = some (refD x1.toInt md.toInt) :=
    sumDivisor_eq_some.2 ⟨ut, ac5, ac6, md, hut, hac5, hac6, hmd, by rw [hval]⟩
  obtain ⟨hd, hst, hi⟩ | ⟨hd, hstep₂⟩ := hcase
  · rw [runSeq_cons_stop h₂ hi] at h
    cases h
    exact ⟨.of_frame hframe (hut₂.trans hut₁), _, hsum, .inl ⟨hd, hst, hi⟩⟩
  · replace hstep₂ : s₂.step = .t3 := by rw [hstep₂, hstep₁]; rfl
    rw [runSeq_cons_go h₂ (by rw [hstep₂]; decide)] at h
    obtain ⟨u, hu, hut₃, hrun⟩ := runSeq_advancing (R := fun s t => t.ut = s.ut) (fun _ => rfl)
      (fun _ _ _ h k => k.trans h) (gs := []) t3_t4_keep_ut (by rw [hstep₂]; decide) h
    cases hrun
    exact ⟨.of_frame hframe (hut₃.trans (hut₂.trans hut₁)), _, hsum, .inr ⟨hd, by rw [hu, hstep₂]; rfl⟩⟩

theorem p1_to_p10_keep_ut :
    ∀ f ∈ [execP1, execP2, execP3, execP4, execP5, execP6, execP7, execP8, execP9, execP10],
      ∀ s t, f s = .next t → t.step = nextLabel s.step ∧ t.ut = s.ut := by
  simp [execP1, execP2, execP3, execP4, execP5, execP6, execP7, execP8, execP9, execP10, forall_need_eq_next]

theorem p12_to_p15_keep_ut_b4 :
    ∀ f ∈ [execP12, execP13, execP14, execP15],
      ∀ s t, f s = .next t → t.step = nextLabel s.step ∧ t.ut = s.ut ∧ t.b4 = s.b4 := by
  simp [execP12, execP13, execP14, execP15, forall_need_eq_next]

/-- COMP_P ends the operation with E_DIV0_PRES where B4 is zero; else it goes on to G.12 (R180, R191). -/
theorem compP_ends {s t : State} (h : execCompP s = .next t) :
    Quiet s t ∧ ((t.b4 = some 0 ∧ t.status = some .div0Pres ∧ t.step = .idle) ∨
      (∃ b4 ≠ 0, t.b4 = some b4) ∧ t.step = .g12) := by
  have hframe := frame_compP h
  obtain ⟨s₁, hs₁, hut₁, h⟩ := runSeq_advancing (R := fun s t => t.ut = s.ut) (fun _ => rfl)
    (fun _ _ _ h k => k.trans h) (gs := [execP11, execP12, execP13, execP14, execP15]) p1_to_p10_keep_ut
    (by rw [enter_step]; decide) h
  replace hs₁ : s₁.step = .p11 := hs₁
  obtain ⟨s₂, h₂⟩ := runSeq_cons_next h
  obtain ⟨b4, hb4, ⟨hz, rfl⟩ | ⟨hz, b7, -, rfl⟩⟩ := execP11_cases h₂
  · rw [runSeq_cons_stop h₂ rfl] at h
    cases h
    exact ⟨.of_frame hframe hut₁, .inl ⟨by rw [raise_b4, hb4, beq_iff_eq.1 hz], rfl, rfl⟩⟩
  · rw [runSeq_cons_go h₂ (by rw [advance_step, hs₁]; decide)] at h
    obtain ⟨u, hu, ⟨hut, hb4'⟩, hrun⟩ := runSeq_advancing (R := fun s t => t.ut = s.ut ∧ t.b4 = s.b4)
      (fun _ => ⟨rfl, rfl⟩) (fun _ _ _ h k => ⟨k.1.trans h.1, k.2.trans h.2⟩) (gs := []) p12_to_p15_keep_ut_b4
      (by rw [advance_step, hs₁]; decide) h
    cases hrun
    exact ⟨.of_frame hframe (hut.trans hut₁), .inr ⟨⟨b4, beq_eq_false_iff_ne.1 hz, hb4'.trans hb4⟩,
      by rw [hu, advance_step, hs₁]; rfl⟩⟩

/-! ## How GET_PRESSURE ends -/

/-- The ways the second half of a GET_PRESSURE ends, G.7 to G.12 (R256), with the requests it has made. -/
inductive PressureEnd (t : State) : List Event → Prop
  | short {a : Nat} : a < 3 → t.status = some .bus → PressureEnd t [.rq 0xF6 3 a]
  | zeroB4 : t.b4 = some 0 → t.status = some .div0Pres → PressureEnd t [.rq 0xF6 3 3]
  | ok {b4 : W32} : b4 ≠ 0 → t.b4 = some b4 → t.status = some .ok → PressureEnd t [.rq 0xF6 3 3]

/-- The ways a GET_PRESSURE from `s` ends (R255, R256), with the requests it has made. -/
inductive GetPressureEnd (s t : State) : List Event → Prop
  | notReady : s.session = .uninit → t.status = some .notReady → GetPressureEnd s t []
  | short {a : Nat} : s.session = .ready → a < 2 → t.status = some .bus → GetPressureEnd s t [.rq 0xF6 2 a]
  | zeroSum : s.session = .ready → sumDivisor t = some 0 → t.status = some .div0Temp →
      GetPressureEnd s t [.rq 0xF6 2 2]
  | pressure {d : Int} {rs : List Event} : s.session = .ready → d ≠ 0 → sumDivisor t = some d → PressureEnd t rs →
      GetPressureEnd s t (.rq 0xF6 2 2 :: rs)

/-- The second half of a GET_PRESSURE: G.7 and G.8 ask nothing, READ_UP asks once, and COMP_P tests B4. -/
theorem pressureHalf_ends {s t : State} (hs : s.step = .g7)
    (h : runSeq [stmtG7, execSelectDelay .pressure, execReadUp, execAsmUp, execCompP, stmtG12] s = .next t) :
    ∃ rs, Requests rs s t ∧ t.cal = s.cal ∧ t.ut = s.ut ∧ PressureEnd t rs := by
  obtain ⟨s₁, hs₁, hq₁, h⟩ := runSeq_advancing Quiet.refl Quiet.trans (fs := [stmtG7, execSelectDelay .pressure])
    (gs := [execReadUp, execAsmUp, execCompP, stmtG12])
    (by simpa using ⟨fun _ _ => quiet_g7, fun _ _ => quiet_selectDelay⟩) (by rw [hs]; decide) h
  replace hs₁ : s₁.step = .g9 := by rw [hs₁, hs]; rfl
  obtain ⟨a, ha, hst, hcal, hut, htr⟩ | ⟨s₂, hs₂, hcal, hut, hlen, htr, h⟩ :=
    runSeq_busRead_cases (reg := regData) (n := 3) (by rw [hs₁]; decide) h
  · exact ⟨[.rq 0xF6 3 a], hq₁.requests.trans (.of_trace htr), hcal.trans hq₁.cal, hut.trans hq₁.ut, .short ha hst⟩
  replace hs₂ : s₂.step = .g10 := by rw [hs₂, hs₁]; rfl
  obtain ⟨s₃, hs₃, hq₃, h⟩ := runSeq_advancing Quiet.refl Quiet.trans (fs := [execAsmUp]) (gs := [execCompP, stmtG12])
    (by simpa using fun _ _ => quiet_asmUp) (by rw [hs₂]; decide) h
  obtain ⟨s₄, h₄⟩ := runSeq_cons_next h
  obtain ⟨hq₄, hcase⟩ := compP_ends h₄
  have hq := hq₃.trans _ _ _ hq₄
  have hr : Requests [.rq 0xF6 3 3] s s₄ := hq₁.requests.trans ((Requests.of_read hlen htr).trans hq.requests)
  have hcal₄ : s₄.cal = s.cal := hq.cal.trans (hcal.trans hq₁.cal)
  have hut₄ : s₄.ut = s.ut := hq.ut.trans (hut.trans hq₁.ut)
  obtain ⟨hb4, hst, hi⟩ | ⟨⟨b4, hne, hb4⟩, hs₄⟩ := hcase
  · rw [runSeq_cons_stop h₄ hi] at h
    cases h
    exact ⟨_, hr, hcal₄, hut₄, .zeroB4 hb4 hst⟩
  · rw [runSeq_cons_go h₄ (by rw [hs₄]; decide)] at h
    obtain ⟨s₅, h₅⟩ := runSeq_cons_next h
    obtain ⟨temp, -, he⟩ := need_eq_next.1 h₅
    obtain ⟨pres, -, he⟩ := need_eq_next.1 he
    cases he
    rw [runSeq_cons_stop h₅ rfl] at h
    cases h
    exact ⟨_, hr, hcal₄, hut₄, .ok hne hb4 rfl⟩

/-- A GET_PRESSURE: G.0 tests the session, G.1 to G.3 ask nothing, READ_UT asks once, and COMP_T tests the divisor of
T2. -/
theorem getPressure_ends {m : Byte} {s t : State} (h : execGetPressure m s = .next t) :
    ∃ rs, Requests rs s t ∧ GetPressureEnd s t rs := by
  obtain ⟨hses, rfl⟩ | ⟨hses, h⟩ := runSeq_requireReady_cases (by rw [present_step]; decide) h
  · exact ⟨[], ⟨[], by simp, rfl⟩, .notReady hses rfl⟩
  obtain ⟨s₁, hs₁, hq₁, h⟩ := runSeq_advancing Quiet.refl Quiet.trans
    (fs := [execClamp, execStartT, execSelectDelay .temperature]) (gs := [execReadUt, execAsmUt, execCompT, stmtG7,
      execSelectDelay .pressure, execReadUp, execAsmUp, execCompP, stmtG12])
    (by simpa using ⟨fun _ _ => quiet_clamp, fun _ _ => quiet_startT, fun _ _ => quiet_selectDelay⟩)
    (by rw [advance_step, present_step]; decide) h
  replace hs₁ : s₁.step = .g4 := hs₁
  have hr₁ : Requests [] s s₁ := hq₁.requests
  obtain ⟨a, ha, hst, -, -, htr⟩ | ⟨s₂, hs₂, -, -, hlen, htr, h⟩ :=
    runSeq_busRead_cases (reg := regData) (n := 2) (by rw [hs₁]; decide) h
  · exact ⟨[.rq 0xF6 2 a], hr₁.trans (.of_trace htr), .short hses ha hst⟩
  replace hs₂ : s₂.step = .g5 := by rw [hs₂, hs₁]; rfl
  rw [runSeq_cons_go (f := execAsmUt) rfl (by rw [advance_step, hs₂]; decide)] at h
  obtain ⟨s₃, h₃⟩ := runSeq_cons_next h
  obtain ⟨hq₃, d, hd, hcase⟩ := compT_ends h₃
  rw [← sumDivisor_congr hq₃.ut hq₃.cal] at hd
  have hr₃ : Requests [.rq 0xF6 2 2] s s₃ := hr₁.trans ((Requests.of_read hlen htr).trans hq₃.requests)
  obtain ⟨rfl, hst, hi⟩ | ⟨hne, hs₃⟩ := hcase
  · rw [runSeq_cons_stop h₃ hi] at h
    cases h
    exact ⟨_, hr₃, .zeroSum hses hd hst⟩
  · rw [runSeq_cons_go h₃ (by rw [hs₃]; decide)] at h
    obtain ⟨rs, hr, hcal, hut, hend⟩ := pressureHalf_ends hs₃ h
    exact ⟨_, hr₃.trans hr, .pressure hses hne (by rw [← hd, sumDivisor_congr hut hcal]) hend⟩

/-! ## How the other two host operations end -/

/-- The ways a BEGIN ends (R252, R254), with all it puts on the bus. -/
inductive BeginEnd (t : State) : List Event → Prop
  | shortId {a : Nat} : a < 1 → t.status = some .bus → BeginEnd t [.rq 0xD0 1 a]
  | wrongId {b : Byte} : b ≠ 0x55 → t.status = some .idMismatch → BeginEnd t (readEvents 0xD0 [b])
  | shortCal {a : Nat} : a < 22 → t.status = some .bus → BeginEnd t (readEvents 0xD0 [0x55] ++ [.rq 0xAA 22 a])
  | ok {c : List Byte} : c.length = 22 → t.status = some .ok →
      BeginEnd t (readEvents 0xD0 [0x55] ++ readEvents 0xAA c)

/-- CHECK_ID passes exactly the byte 0x55 (R221). -/
theorem checkId_cases {s : State} {b : Byte} (hb : latched s 0 = b) : (b = 0x55 ∧ checkId s = advance s) ∨
    (b ≠ 0x55 ∧ checkId s = raise (.idMismatch b) s) := by
  subst hb
  by_cases hid : latched s 0 = 0x55
  · exact .inl ⟨hid, if_pos (beq_iff_eq.2 hid)⟩
  · exact .inr ⟨hid, if_neg fun h => hid (beq_iff_eq.1 h)⟩

/-- A BEGIN: READ_ID, CHECK_ID on the byte it read, READ_CAL; nothing else of it can fail. -/
theorem begin_ends {s t : State} (h : execBegin s = .next t) : ∃ es, t.trace = s.trace ++ es ∧ BeginEnd t es := by
  rw [execBegin_eq_runSeq, runSeq_total_go (g := stmtB1) rfl Label.noConfusion] at h
  obtain ⟨a, ha, hst, -, -, htr⟩ | ⟨s₁, hs₁, -, -, hlen₁, htr₁, h⟩ :=
    runSeq_busRead_cases (reg := regId) (n := 1) Label.noConfusion h
  · exact ⟨_, htr, .shortId ha hst⟩
  replace hs₁ : s₁.step = .b3 := hs₁
  obtain ⟨b, hb⟩ := List.length_eq_one_iff.1 hlen₁
  rw [hb] at htr₁
  obtain ⟨rfl, he⟩ | ⟨hid, he⟩ := checkId_cases (s := s₁) (b := b) (by rw [latched, hb]; rfl)
  · rw [runSeq_cons_go (f := execCheckId) (congrArg Host.Outcome.next he) (by rw [advance_step, hs₁]; decide)] at h
    obtain ⟨a, ha, hst, -, -, htr⟩ | ⟨s₂, hs₂, -, -, hlen₂, htr₂, h⟩ :=
      runSeq_busRead_cases (reg := regCal) (n := calBytes) (by rw [advance_step, hs₁]; decide) h
    · exact ⟨_, by rw [htr, advance_trace, htr₁, List.append_assoc]; rfl, .shortCal ha hst⟩
    replace hs₂ : s₂.step = .b5 := by rw [hs₂, advance_step, hs₁]; rfl
    rw [runSeq_cons_go (f := execUnpackCal) rfl (by rw [unpackCal, advance_step, hs₂]; decide),
      runSeq_total_stop (g := stmtB6) rfl rfl] at h
    cases h
    exact ⟨_, htr₂.trans (by rw [advance_trace, htr₁, List.append_assoc]; rfl), .ok hlen₂ rfl⟩
  · rw [runSeq_cons_stop (f := execCheckId) (congrArg Host.Outcome.next he) rfl] at h
    cases h
    exact ⟨_, htr₁, .wrongId hid rfl⟩

/-- L.1 and L.2 answer with E_OK, before a reading and after one (R259). -/
theorem answer_ends {s t : State} (hs : s.step = .l1)
    (h : runSeq [fun s => .next (stmtL1 s), stmtL2] s = .next t) : t.trace = s.trace ∧ t.status = some .ok := by
  cases hv : s.lastTValid with
  | false =>
    have he : stmtL1 s = finish (some tSentinel) s := by simp [stmtL1, hv]
    rw [runSeq_total_stop he rfl] at h
    cases h
    exact ⟨rfl, rfl⟩
  | true =>
    have he : stmtL1 s = advance s := if_pos hv
    rw [runSeq_total_go he (by rw [advance_step, hs]; decide)] at h
    obtain ⟨s₁, h₁⟩ := runSeq_cons_next h
    obtain ⟨temp, -, he⟩ := need_eq_next.1 h₁
    cases he
    rw [runSeq_cons_stop h₁ rfl] at h
    cases h
    exact ⟨rfl, rfl⟩

/-- GET_LAST_TEMPERATURE does nothing on the bus; in UNINIT it ends with E_NOT_READY, in READY with E_OK (R259). -/
theorem getLastTemperature_ends {s t : State} (h : execGetLastTemperature s = .next t) : t.trace = s.trace ∧
    ((s.session = .uninit ∧ t.status = some .notReady) ∨ (s.session = .ready ∧ t.status = some .ok)) := by
  obtain ⟨hses, rfl⟩ | ⟨hses, h⟩ := runSeq_requireReady_cases (by rw [present_step]; decide) h
  · exact ⟨rfl, .inl ⟨hses, rfl⟩⟩
  · obtain ⟨htr, hst⟩ := answer_ends rfl h
    exact ⟨htr, .inr ⟨hses, hst⟩⟩

/-! ## The statement, clause by clause -/

section
variable {s t : State} {rs : List Event}

theorem PressureEnd.bus_of_short (h : PressureEnd t rs) {reg : Byte} {n a : Nat} (hm : .rq reg n a ∈ rs) (ha : a < n) :
    t.status = some .bus := by
  cases h with
  | short _ hst => exact hst
  | zeroB4 | ok =>
    cases List.mem_singleton.1 hm
    exact absurd ha (Nat.lt_irrefl 3)

theorem GetPressureEnd.bus_of_short (h : GetPressureEnd s t rs) {reg : Byte} {n a : Nat} (hm : .rq reg n a ∈ rs)
    (ha : a < n) : t.status = some .bus := by
  cases h with
  | notReady => simp at hm
  | short _ _ hst => exact hst
  | zeroSum =>
    cases List.mem_singleton.1 hm
    exact absurd ha (Nat.lt_irrefl 2)
  | pressure _ _ _ hend =>
    obtain hm | hm := List.mem_cons.1 hm
    · cases hm
      exact absurd ha (Nat.lt_irrefl 2)
    · exact hend.bus_of_short hm ha

/-- With a full READ_UT, a zero divisor of T2 is reported. -/
theorem GetPressureEnd.div0Temp_of_zero (h : GetPressureEnd s t rs) (hm : .rq 0xF6 2 2 ∈ rs)
    (hd : sumDivisor t = some 0) : t.status = some .div0Temp := by
  cases h with
  | notReady => simp at hm
  | short _ ha =>
    cases List.mem_singleton.1 hm
    exact absurd ha (Nat.lt_irrefl 2)
  | zeroSum _ _ hst => exact hst
  | pressure _ hne hd' => exact absurd (Option.some.inj (hd'.symm.trans hd)) hne

/-- With a full READ_UP, a zero B4 is reported. -/
theorem GetPressureEnd.div0Pres_of_zero (h : GetPressureEnd s t rs) (hm : .rq 0xF6 3 3 ∈ rs) (hb4 : t.b4 = some 0) :
    t.status = some .div0Pres := by
  cases h with
  | notReady | short | zeroSum => simp at hm
  | pressure _ _ _ hend =>
    cases hend with
    | short ha =>
      obtain rfl : 3 = _ := by simpa using hm
      exact absurd ha (Nat.lt_irrefl 3)
    | zeroB4 _ hst => exact hst
    | ok hne hb4' => exact absurd (Option.some.inj (hb4'.symm.trans hb4)) hne

/-- E_OK: both samples were read in full, and both divisors were tested. -/
theorem GetPressureEnd.tests_of_ok (h : GetPressureEnd s t rs) (hok : t.status = some .ok) :
    s.session = .ready ∧ .rq 0xF6 2 2 ∈ rs ∧ .rq 0xF6 3 3 ∈ rs ∧ (∃ d ≠ 0, sumDivisor t = some d) ∧
      ∃ b4, t.b4 = some b4 ∧ b4 ≠ 0 := by
  cases h with
  | notReady _ hst | short _ _ hst | zeroSum _ _ hst => simp [hst] at hok
  | pressure hses hne hd hend =>
    cases hend with
    | short _ hst | zeroB4 _ hst => simp [hst] at hok
    | ok hb hb4 => exact ⟨hses, by simp, by simp, ⟨_, hne, hd⟩, _, hb4, hb⟩

theorem GetPressureEnd.notReady_of_uninit (h : GetPressureEnd s t rs) (hses : s.session = .uninit) :
    t.status = some .notReady := by
  cases h with
  | notReady _ hst => exact hst
  | short hr | zeroSum hr | pressure hr => simp [hses] at hr

theorem BeginEnd.bus_of_short (h : BeginEnd t rs) {reg : Byte} {n a : Nat} (hm : .rq reg n a ∈ rs) (ha : a < n) :
    t.status = some .bus := by
  cases h with
  | shortId _ hst | shortCal _ hst => exact hst
  | wrongId =>
    obtain ⟨-, rfl, rfl⟩ : reg = 0xD0 ∧ n = 1 ∧ a = 1 := by simpa [readEvents] using hm
    exact absurd ha (Nat.lt_irrefl 1)
  | ok hlen =>
    obtain ⟨-, rfl, rfl⟩ | ⟨-, rfl, rfl⟩ : (reg = 0xD0 ∧ n = 1 ∧ a = 1) ∨ (reg = 0xAA ∧ n = 22 ∧ a = 22) := by
      simpa [readEvents, hlen] using hm
    · exact absurd ha (Nat.lt_irrefl 1)
    · exact absurd ha (Nat.lt_irrefl 22)

theorem BeginEnd.idMismatch_of_wrong (h : BeginEnd t rs) {b : Byte} {es : List Event}
    (hrs : rs = .rq 0xD0 1 1 :: .rd b :: es) (hb : b ≠ 0x55) : t.status = some .idMismatch := by
  cases h with
  | wrongId _ hst => exact hst
  | shortId => simp at hrs
  | shortCal | ok =>
    cases hrs
    exact absurd rfl hb

theorem BeginEnd.tests_of_ok (h : BeginEnd t rs) (hok : t.status = some .ok) :
    ∃ es, rs = .rq 0xD0 1 1 :: .rd 0x55 :: .rq 0xAA 22 22 :: es := by
  cases h with
  | shortId _ hst | wrongId _ hst | shortCal _ hst => simp [hst] at hok
  | ok hlen => exact ⟨_, by rw [readEvents, readEvents, hlen]; rfl⟩

end

/-- Settles O53: each host operation ends in one of the ways `GetPressureEnd`, `BeginEnd` and
`getLastTemperature_ends` list, and each clause is read off them. -/
theorem noSilentFailure : Obligations.NoSilentFailure := by
  intro i s t hi h
  cases i with
  | beginOp =>
    obtain ⟨es, htr, hend⟩ := begin_ends h
    exact ⟨by simp, es, htr, fun _ _ _ => hend.bus_of_short, fun _ _ _ => hend.idMismatch_of_wrong, by simp, by simp,
      fun hok => ⟨by simp, fun _ => hend.tests_of_ok hok, by simp⟩⟩
  | getPressure m =>
    obtain ⟨rs, ⟨es, htr, rfl⟩, hend⟩ := getPressure_ends h
    refine ⟨fun _ => hend.notReady_of_uninit, es, htr, fun _ _ _ hm => hend.bus_of_short (rq_mem_filter.2 hm), by simp,
      fun _ ut ac5 ac6 md _ hm hut hac5 hac6 hmd hd => hend.div0Temp_of_zero (rq_mem_filter.2 hm)
        (sumDivisor_eq_some.2 ⟨ut, ac5, ac6, md, hut, hac5, hac6, hmd, hd⟩),
      fun _ _ hm => hend.div0Pres_of_zero (rq_mem_filter.2 hm), fun hok => ?_⟩
    obtain ⟨hses, hm2, hm3, ⟨d, hne, hd⟩, hb4⟩ := hend.tests_of_ok hok
    obtain ⟨ut, ac5, ac6, md, hut, hac5, hac6, hmd, rfl⟩ := sumDivisor_eq_some.1 hd
    exact ⟨fun _ => hses, by simp, fun _ _ => ⟨rq_mem_filter.1 hm2, rq_mem_filter.1 hm3,
      ⟨ut, ac5, ac6, md, hut, hac5, hac6, hmd, hne⟩, hb4⟩⟩
  | getLastTemperature =>
    obtain ⟨htr, hend⟩ := getLastTemperature_ends h
    refine ⟨?_, [], by simp [htr], by simp, by simp, by simp, by simp, ?_⟩
    · obtain ⟨-, hst⟩ | ⟨hses, -⟩ := hend
      · exact fun _ _ => hst
      · simp [hses]
    · obtain ⟨-, hst⟩ | ⟨hses, -⟩ := hend
      · simp [hst]
      · simp [hses]
  | _ => cases hi

end Sys2Proof.Machine

/-! Proofs of the statements of 30_encoding.md: the decoder and the encoder invert each other (R100 to R104, R108 to
R110). On codes this is a table; `decodeBytes_bytes` carries it over to bytes. -/

namespace Sys2Proof

/-! ## From the encoder to the decoder -/

/-- The code of every operation decodes to it. -/
theorem decode_encode (i : Instr) : decode (encode i) = .ok i := by
  cases i with
  | startP oss => exact Laws.Encoding.startP oss
  | selectDelay conv => exact Laws.Encoding.selectDelay conv
  | _ => rfl

/-- A code as the encoder writes it: only GET_PRESSURE has a mode (R104). -/
def Code.Canonical : Code → Prop
  | .host opSel modeIn => opSel = 1 ∨ modeIn = 0
  | .cmd8 _ | .rd _ | .sel _ => True

theorem encode_canonical (i : Instr) : (encode i).Canonical := by
  cases i with
  | getPressure mode => exact .inl rfl
  | beginOp | getLastTemperature | reservedHost => exact .inr rfl
  | selectDelay conv => cases conv <;> trivial
  | _ => trivial

/-- Two bytes side by side, the first one high. -/
theorem toNat_append_bytes (a b : Byte) : (a ++ b).toNat = a.toNat * 256 + b.toNat := by
  rw [BitVec.toNat_append, ← Nat.shiftLeft_add_eq_or_of_lt b.isLt, Nat.shiftLeft_eq]

@[simp] theorem toNat_readKey (reg n : Byte) : (readKey reg n).toNat = reg.toNat * 256 + n.toNat :=
  toNat_append_bytes reg n

theorem readKey_split (key : BitVec 16) : readKey (key.extractLsb' 8 8) (key.extractLsb' 0 8) = key := by
  apply BitVec.eq_of_toNat_eq
  simp [Nat.shiftRight_eq_div_pow]
  omega

theorem bytes_readKey (reg n : Byte) : (Code.rd (readKey reg n)).bytes = (.rd, [n, reg]) := by
  have hlow : (readKey reg n).extractLsb' 0 8 = n := by
    apply BitVec.eq_of_toNat_eq
    simpa [Nat.shiftRight_eq_div_pow] using n.isLt
  have hhigh : (readKey reg n).extractLsb' 8 8 = reg := by
    apply BitVec.eq_of_toNat_eq
    simp [Nat.shiftRight_eq_div_pow]
    omega
  rw [Code.bytes, hlow, hhigh]

/-- Selector and mode as bytes are read as they were written. -/
theorem decodeBytes_host_bytes {opSel : BitVec 2} {modeIn : Byte} (h : opSel = 1 ∨ modeIn = 0) :
    decodeBytes (Code.host opSel modeIn).bytes.1 (Code.host opSel modeIn).bytes.2 = .ok (decodeHost opSel modeIn) := by
  obtain rfl | rfl := h
  · rfl
  · have hall : ∀ o : BitVec 2, decodeBytes (Code.host o 0).bytes.1 (Code.host o 0).bytes.2 = .ok (decodeHost o 0) := by
      decide
    exact hall opSel

/-- The bytes of a canonical code decode as the code does. -/
theorem decodeBytes_bytes {c : Code} (hc : c.Canonical) : decodeBytes c.bytes.1 c.bytes.2 = decode c := by
  cases c with
  | host opSel modeIn => exact decodeBytes_host_bytes hc
  | cmd8 cmd => rfl
  | rd key => exact congrArg decodeRead (readKey_split key)
  | sel l => rfl

/-- Settles O1: codes decode by `decode_encode`, and their bytes decode as they do. -/
theorem encodedOperationsDecode : Obligations.EncodedOperationsDecode :=
  fun i => ⟨decode_encode i, (decodeBytes_bytes (encode_canonical i)).trans (decode_encode i)⟩

/-! ## From the decoder to the encoder -/

/-- START_T's pattern fixes all eight bits, START_P's the low six, and the field is the other two (R101, R102). -/
theorem encode_decodeCommand {cmd : Byte} {i : Instr} (h : decodeCommand cmd = .ok i) : encode i = .cmd8 cmd := by
  unfold decodeCommand at h
  split at h
  next hp =>
    cases h
    have hall : ∀ c : Byte, c &&& 0xFF = 0x2E → startTByte = c := by decide
    rw [encode, hall cmd hp]
  next =>
    split at h
    next hp =>
      cases h
      have hall : ∀ c : Byte, c &&& 0x3F = 0x34 → startPByte (c.extractLsb' 6 2) = c := by decide
      rw [encode, hall cmd hp]
    next => cases h

theorem encode_decodeRead {key : BitVec 16} {i : Instr} (h : decodeRead key = .ok i) : encode i = .rd key := by
  unfold decodeRead at h
  repeat' split at h
  all_goals cases h
  all_goals subst key; rfl

theorem encode_decodeStep {l : Label} {i : Instr} (h : decodeStep l = .ok i) : encode i = .sel l := by
  cases l <;> cases h <;> rfl

/-- A selector byte that decodes has no other bit set, and carries a mode exactly where it selects GET_PRESSURE. -/
theorem encodeBytes_decodeHost {bs : List Byte} {i : Instr} (h : decodeBytes .host bs = .ok i) :
    encodeBytes i = (.host, bs) := by
  cases bs with
  | nil => cases h
  | cons sel rest =>
    simp only [decodeBytes] at h
    split at h
    · cases h
    next hsel =>
    split at h
    next h1 =>
      subst h1
      split at h
      · cases h
        rfl
      · cases h
    next h1 =>
      split at h
      next hrest =>
        cases h
        subst hrest
        have hall : ∀ b : Byte, ¬ (b &&& 0xFC ≠ 0) → ¬ b = 1 →
            encodeBytes (decodeHost (b.extractLsb' 0 2) 0) = (.host, [b]) := by decide
        exact hall sel hsel h1
      next => cases h

/-- Settles O2: format by format, the bytes are those of the code the format decodes. -/
theorem decodedBytesAreTheOperationsOwn : Obligations.DecodedBytesAreTheOperationsOwn := by
  intro fmt bs i h
  cases fmt with
  | cmd8 =>
    match bs, h with
    | [cmd], h => rw [encodeBytes, encode_decodeCommand h, Code.bytes]
  | rd =>
    match bs, h with
    | [n, reg], h => rw [encodeBytes, encode_decodeRead h, bytes_readKey]
  | host => exact encodeBytes_decodeHost h
  | step l =>
    match bs, h with
    | [], h => rw [encodeBytes, encode_decodeStep h, Code.bytes]

/-! ## The listed words -/

/-- Settles O3: the words by evaluation; and what decodes is the word of the operation it decodes to. -/
theorem onlyTheListedWordsDecode : Obligations.OnlyTheListedWordsDecode := by
  refine ⟨rfl, rfl, rfl, rfl, rfl, rfl, rfl, rfl, rfl, fun _ => rfl, fun _ => rfl, fun _ => rfl, ?_, ?_⟩
  · have hall : ∀ b : Byte, accepted (decodeCommand b) ≠ none → b ∈ [0x2E, 0x34, 0x74, 0xB4, 0xF4] := by
      decide
    intro b i h
    exact hall b (by rw [show decodeCommand b = .ok i from h]; exact Option.some_ne_none i)
  · intro k i h
    simp only [decode, decodeRead] at h
    repeat' split at h
    all_goals simp_all

end Sys2Proof

/-! Proofs of the statements of 40_arith.md on the wrapping operations, signed division and the conversions (R131 to
R133, R136, R138, R140, R141, R144). -/

namespace Sys2Proof.Machine

/-! ## The wrap of R10 -/

theorem S32_of_range {v : Int} (hlo : -2147483648 ≤ v) (hhi : v < 2147483648) : S32 v = v := by
  rw [S32]
  omega

theorem toInt_range (v : W32) : -2147483648 ≤ v.toInt ∧ v.toInt < 2147483648 :=
  ⟨BitVec.le_toInt v, BitVec.toInt_lt⟩

theorem toNat_eq_U32_toInt (v : W32) : (v.toNat : Int) = U32 v.toInt := by
  rw [U32, BitVec.toInt_eq_toNat_cond]
  split <;> omega

theorem toInt_eq_S32_toNat (v : W32) : v.toInt = S32 v.toNat := by
  rw [S32_eq_bmod, BitVec.toInt_eq_toNat_bmod]

/-! ## Add, subtract, multiply and the left shift -/

@[simp] theorem toNat_add32 (a b : W32) : ((add32 a b).toNat : Int) = U32 (a.toNat + b.toNat) := by
  rw [add32, BitVec.toNat_add, U32]
  omega

@[simp] theorem toNat_sub32 (a b : W32) : ((sub32 a b).toNat : Int) = U32 (a.toNat - b.toNat) := by
  rw [sub32, BitVec.toNat_sub, U32]
  omega

@[simp] theorem toNat_mul32 (a b : W32) : ((mul32 a b).toNat : Int) = U32 (a.toNat * b.toNat) := by
  rw [mul32, BitVec.toNat_mul, U32]
  push_cast
  rfl

/-- A left shift is the wrapped product with a power of two (R136). -/
@[simp] theorem toInt_lsl (v : W32) (n : Nat) : (lsl v n).toInt = S32 (v.toInt * 2 ^ n) := by
  rw [lsl, BitVec.toInt_shiftLeft, S32_eq_bmod, BitVec.toInt_eq_toNat_bmod v, Int.bmod_mul_bmod, Nat.shiftLeft_eq]
  push_cast
  rfl

/-- Settles O13: each operation is the exact one followed by the wrap, in either reading. -/
theorem addSubtractMultiplyWrap : Obligations.AddSubtractMultiplyWrap :=
  ⟨fun a b => ⟨toInt_add32 a b, toNat_add32 a b, toInt_sub32 a b, toNat_sub32 a b, toInt_mul32 a b, toNat_mul32 a b⟩,
    fun v n _ => toInt_lsl v n⟩

/-! ## Signed division -/

/-- The quotient of R138 is the library's truncating one. -/
theorem truncQuot_eq_tdiv (a b : Int) : truncQuot a b = a.tdiv b := by
  rw [truncQuot, ← Int.sign_mul_natAbs (a.tdiv b), Int.sign_tdiv, Int.natAbs_tdiv]
  split
  next h => simp [Nat.div_eq_of_lt h]
  next => rfl

@[simp] theorem toInt_sdiv (a b : W32) : (sdiv a b).toInt = S32 (truncQuot a.toInt b.toInt) := by
  rw [sdiv, BitVec.toInt_sdiv, S32_eq_bmod, truncQuot_eq_tdiv]

/-- Settles O15: the pattern quotient is the truncating one, wrapped; it leaves the range only at −2^31 / −1. -/
theorem signedDivisionTruncates : Obligations.SignedDivisionTruncates := by
  refine fun a b _ => ⟨toInt_sdiv a b, fun h => ?_⟩
  rw [truncQuot_eq_tdiv]
  refine BitVec.toInt_sdiv_of_ne_or_ne a b (Decidable.not_and_iff_or_not.1 ?_)
  rintro ⟨rfl, rfl⟩
  exact h ⟨rfl, rfl⟩

/-- Settles O17: floor and truncating quotient differ by one, exactly for a negative value that 2^n does not divide. -/
theorem shiftIsAtMostTruncatingQuotient : Obligations.ShiftIsAtMostTruncatingQuotient := by
  intro v n _
  have hpos : (0 : Int) < 2 ^ n := by positivity
  rw [toInt_asr, truncQuot_eq_tdiv, Int.tdiv_eq_ediv, Int.sign_eq_one_of_pos hpos]
  split
  next h => simp [h]
  next h => simp [h]

/-- Settles O18: the pattern has one value in each reading, and bit 31 is the upper half of the unsigned one. -/
theorem conversionsReinterpret : Obligations.ConversionsReinterpret := by
  intro a b
  refine ⟨toNat_eq_U32_toInt a, toInt_eq_S32_toNat a, decide_eq_true_iff, ?_⟩
  rw [ult, decide_eq_true_iff, show a.getLsbD 31 = a.msb from (BitVec.msb_eq_getLsbD_last a).symm,
    BitVec.msb_eq_false_iff_two_mul_lt, show (0x80000000 : W32).toNat = 2147483648 from rfl]
  omega

end Sys2Proof.Machine

/-! Proofs of the statements on the step itself (R44, R45, R105, R108, R342), on reset (R341) and on the status numbers
(R300): which operation or statement the label in STEP selects. -/

namespace Sys2Proof.Machine

/-! ## What STEP selects -/

section
variable {s : State} {i : Instr} {c : Code} {l : Label}

theorem accept_of_ne_idle (hs : s.step ≠ .idle) : accept s = s := by
  unfold accept
  split
  next h _ => exact absurd h hs
  next => rfl

theorem accept_idle {r : HostReq} {rest : List HostReq} (hs : s.step = .idle) (hq : s.hostQ = r :: rest) :
    accept s = { s with hostQ := rest, opSel := r.opSel, modeIn := r.modeIn } := by
  simp [accept, hs, hq]

theorem fetch_idle {r : HostReq} {rest : List HostReq} (hs : s.step = .idle) (hq : s.hostQ = r :: rest) :
    fetch s = .code (.host r.opSel r.modeIn) := by
  simp [fetch, hs, hq]

theorem step_of_code (hf : fetch s = .code c) (hd : decode c = .ok i) : step s = runOperation i (accept s) := by
  simp [step, hf, runCode, hd]

theorem step_of_meaning (hf : fetch s = .code c) (hd : decode c = .ok i)
    (h : s.grain = .operation ∨ firstLabel i = none) : step s = exec i (accept s) := by
  rw [step_of_code hf hd, runOperation_meaning]
  have hg : (accept s).grain = s.grain := by unfold accept; split <;> rfl
  rwa [hg]

/-- Inside a sequence a code runs by its meaning, at the state as it is. -/
theorem step_inside (hs : s.step ≠ .idle) (hf : fetch s = .code c) (hd : decode c = .ok i) (hi : firstLabel i = none) :
    step s = exec i s := by
  rw [step_of_meaning hf hd (.inr hi), accept_of_ne_idle hs]

/-- At the label of a STEP operation that operation runs (R108). -/
theorem step_sel (hs : s.step = l) (hd : decodeStep l = .ok i) : step s = exec i s := by
  have hf : fetch s = .code (.sel l) := by
    cases l <;> cases hd <;> simp [fetch, hs]
  have hi : firstLabel i = none := by
    cases l <;> cases hd <;> rfl
  refine step_inside ?_ hf hd hi
  rintro hidle
  rw [← hs, hidle] at hd
  cases hd

theorem step_own (hf : fetch s = .own) : step s = ownStatement s := by
  simp [step, hf]

/-! ### the reads, the commands and the statements of a sequence's own -/

theorem step_b2 (hs : s.step = .b2) : step s = exec .readId s :=
  step_inside (by simp [hs]) (c := .rd (readKey regId 1)) (by simp [fetch, hs]) rfl rfl

theorem step_b4 (hs : s.step = .b4) : step s = exec .readCal s :=
  step_inside (by simp [hs]) (c := .rd (readKey regCal 22)) (by simp [fetch, hs]) rfl rfl

theorem step_g2 (hs : s.step = .g2) : step s = exec .startT s :=
  step_inside (by simp [hs]) (c := .cmd8 startTByte) (by simp [fetch, hs]) rfl rfl

theorem step_g4 (hs : s.step = .g4) : step s = exec .readUt s :=
  step_inside (by simp [hs]) (c := .rd (readKey regData 2)) (by simp [fetch, hs]) rfl rfl

theorem step_g9 (hs : s.step = .g9) : step s = exec .readUp s :=
  step_inside (by simp [hs]) (c := .rd (readKey regData 3)) (by simp [fetch, hs]) rfl rfl

/-- G.7 stops where OSS is unwritten, as `stmtG7` does, and else runs START_P (R106). -/
theorem step_g7 (hs : s.step = .g7) : step s = stmtG7 s := by
  cases ho : s.oss with
  | none => simp [step, fetch, hs, ho, stmtG7]
  | some oss =>
    rw [stmtG7, ho, need_some]
    exact step_inside (by simp [hs]) (c := encode (.startP oss)) (by simp [fetch, hs, ho, encode]) (decode_encode _) rfl

theorem step_b1 (hs : s.step = .b1) : step s = .next (stmtB1 s) := by
  rw [step_own (by simp [fetch, hs]), ownStatement, hs]

theorem step_b6 (hs : s.step = .b6) : step s = .next (stmtB6 s) := by
  rw [step_own (by simp [fetch, hs]), ownStatement, hs]

theorem step_g0 (hs : s.step = .g0) : step s = .next (requireReady s) := by
  rw [step_own (by simp [fetch, hs]), ownStatement, hs]

theorem step_g12 (hs : s.step = .g12) : step s = stmtG12 s := by
  rw [step_own (by simp [fetch, hs]), ownStatement, hs]

theorem step_l0 (hs : s.step = .l0) : step s = .next (requireReady s) := by
  rw [step_own (by simp [fetch, hs]), ownStatement, hs]

theorem step_l1 (hs : s.step = .l1) : step s = .next (stmtL1 s) := by
  rw [step_own (by simp [fetch, hs]), ownStatement, hs]

theorem step_l2 (hs : s.step = .l2) : step s = stmtL2 s := by
  rw [step_own (by simp [fetch, hs]), ownStatement, hs]

/-- Every code a fetch gives decodes (R109): the reads and commands are listed ones, the labels are those of STEP
operations, and a host selector always decodes. -/
theorem fetch_decodes (hf : fetch s = .code c) : ∃ i, decode c = .ok i := by
  cases hs : s.step with
  | idle =>
    cases hq : s.hostQ with
    | nil => simp [fetch, hs, hq] at hf
    | cons r rest =>
      rw [fetch_idle hs hq] at hf
      cases hf
      exact ⟨_, rfl⟩
  | g7 =>
    cases ho : s.oss with
    | none => simp [fetch, hs, ho] at hf
    | some oss =>
      simp only [fetch, hs, ho] at hf
      cases hf
      exact ⟨_, decode_encode (.startP oss)⟩
  | b1 | b6 | g0 | g12 | l0 | l1 | l2 => simp [fetch, hs] at hf
  | _ =>
    simp only [fetch, hs] at hf
    cases hf
    exact ⟨_, rfl⟩

end

/-! ## The statements on the step -/

/-- Settles O4: each clause is a lemma on `fetch`, `accept` or `step` above. -/
theorem stepRunsTheSelectedOperation : Obligations.StepRunsTheSelectedOperation := by
  refine ⟨fun s c i hf hd h => step_of_meaning hf hd h, fun s c i l hf hd hg hl => ?_, fun s c hf => fetch_decodes hf,
    fun s r rest hs hq => ⟨fetch_idle hs hq, accept_idle hs hq⟩, fun s hs => accept_of_ne_idle hs⟩
  have hg' : (accept s).grain = .statement := by
    rw [← hg]; unfold accept; split <;> rfl
  rw [step_of_code hf hd, runOperation_starts hg' hl]
  rfl

/-- Settles O5: label by label. -/
theorem labelsSelectTheirOperations : Obligations.LabelsSelectTheirOperations :=
  ⟨fun _ => step_b2, fun _ hs => step_sel hs rfl, fun _ => step_b4, fun _ hs => step_sel hs rfl,
    fun _ hs => step_sel hs rfl, fun _ => step_g2, fun _ hs => step_sel hs rfl, fun _ => step_g4,
    fun _ hs => step_sel hs rfl, fun _ hs => step_sel hs rfl,
    fun s oss hs ho => by rw [step_g7 hs, stmtG7, ho]; rfl,
    fun _ hs => step_sel hs rfl, fun _ => step_g9, fun _ hs => step_sel hs rfl, fun _ hs => step_sel hs rfl⟩

/-- Where an operation is placed, its own code is fetched (log entry 5). -/
theorem fetch_place (i : Instr) (s : State) : fetch (place i s) = .code (encode i) := by
  cases i with
  | startP oss =>
    have hall : ∀ o : BitVec 2, startPByte o ≠ startTByte ∧ (startPByte o).extractLsb' 6 2 = o := by decide
    obtain ⟨hne, hfield⟩ := hall oss
    simp [place, encode, fetch, hne, hfield]
  | selectDelay conv => cases conv <;> rfl
  | _ => rfl

/-- A host operation is placed to run whole. -/
theorem grain_place {i : Instr} {l : Label} (hi : firstLabel i = some l) (s : State) :
    (place i s).grain = .operation := by
  cases i <;> cases hi <;> rfl

theorem step_place (i : Instr) (s : State) : step (place i s) = exec i (accept (place i s)) := by
  refine step_of_meaning (fetch_place i s) (decode_encode i) ?_
  cases hi : firstLabel i with
  | none => exact .inr rfl
  | some l => exact .inl (grain_place hi s)

/-- Settles O6: a placed operation is fetched by its code and decoded from it. -/
theorem placedOperationRunsNext : Obligations.PlacedOperationRunsNext := by
  refine ⟨fun i s => ⟨fetch_place i s, step_place i s⟩, fun nbits w i s hw => ?_⟩
  rw [State.withFetchWord, placeWord, hw]
  exact step_place i s

/-- Settles O7: nothing is fetched. -/
theorem idleCoreWaits : Obligations.IdleCoreWaits := by
  intro s hs hq
  simp [step, fetch, hs, hq]

theorem requireReady_ready {s : State} (h : s.session = .ready) : requireReady s = advance s := by
  rw [requireReady, h]

theorem requireReady_uninit {s : State} (h : s.session = .uninit) : requireReady s = raise .notReady s := by
  rw [requireReady, h]

theorem stmtL1_valid {s : State} (h : s.lastTValid = true) : stmtL1 s = advance s := if_pos h

theorem stmtL1_invalid {s : State} (h : s.lastTValid = false) : stmtL1 s = finish (some tSentinel) s :=
  if_neg (by simp [h])

theorem stmtG12_written {s : State} {t pres : W32} (ht : s.t = some t) (hp : s.pres = some pres) :
    stmtG12 s = .next (finish (some pres) { s with lastT := some t, lastTValid := true }) := by
  rw [stmtG12, ht, hp, need_some, need_some]

theorem stmtL2_written {s : State} {t : W32} (ht : s.lastT = some t) : stmtL2 s = .next (finish (some t) s) := by
  rw [stmtL2, ht, need_some]

theorem advance_eq {s : State} {l : Label} (hs : s.step = l) : advance s = { s with step := nextLabel l } := by
  rw [advance, hs]

/-- Settles O8: the step at each label is its statement, and the statement is its lemma. -/
theorem sequenceStatementsRun : Obligations.SequenceStatementsRun := by
  refine ⟨fun s hs => ?_, fun s hs => step_b6 hs, fun s hs hr => ?_, fun s hs hr => ?_, fun s hs hu => ?_,
    fun s t pres hs ht hp => ?_, fun s hs hv => ?_, fun s hs hv => ?_, fun s t hs ht => ?_⟩
  · rw [step_b1 hs, stmtB1, advance_eq (s := { s with session := .uninit }) hs, nextLabel]
  · rw [step_g0 hs, requireReady_ready hr, advance_eq hs, nextLabel]
  · rw [step_l0 hs, requireReady_ready hr, advance_eq hs, nextLabel]
  · have hstep : step s = .next (requireReady s) := hs.elim step_g0 step_l0
    rw [hstep, requireReady_uninit hu]
    rfl
  · rw [step_g12 hs, stmtG12_written ht hp]
    rfl
  · rw [step_l1 hs, stmtL1_invalid hv]
    rfl
  · rw [step_l1 hs, stmtL1_valid hv, advance_eq hs, nextLabel]
  · rw [step_l2 hs, stmtL2_written ht]
    rfl

/-! ## Reset, the reserved selector and the status numbers -/

/-- Settles O9: row by row. -/
theorem resetLeavesTheTable : Obligations.ResetLeavesTheTable :=
  ⟨rfl, rfl, rfl, rfl, fun r => by cases r <;> rfl, rfl, rfl⟩

/-- Settles O10: at IDLE in UNINIT, with LAST_T_VALID clear, the invariant asks for nothing. -/
theorem resetMeetsTheInvariant : Obligations.ResetMeetsTheInvariant := rfl

/-- Settles O50: the refusal is the operation's meaning, and no grain starts it. -/
theorem reservedSelectorIsRefused : Obligations.ReservedSelectorIsRefused := by
  refine ⟨fun _ => rfl, fun s hp => ?_⟩
  obtain ⟨hs, modeIn, rest, hq⟩ := hp
  exact step_of_meaning (i := .reservedHost) (fetch_idle hs hq) rfl (.inr rfl)

/-- Settles O51: by the table of R300. -/
theorem statusCodesAreTheListed : Obligations.StatusCodesAreTheListed := by
  refine ⟨rfl, rfl, rfl, rfl, rfl, rfl, fun a b h => ?_, fun a => ?_⟩
  · cases a <;> cases b <;> simp_all [Status.code]
  · cases a <;> decide

end Sys2Proof.Machine

/-! What one statement of a sequence can do, said once (`Effect`, `effect_of_step`), and how a pass or a host operation,
run as one step, is a path of such statements (`Path`, `stepPath_of_step`). The invariants and the whole-machine rules are
read off these two. -/

namespace Sys2Proof.Machine

/-! ## The tables of the listings -/

/-- The register a statement writes (R161 to R164, R181 to R195, R223 to R225); none where it writes no working
register. -/
def writtenAt : Label → Option RegName
  | .g1 => some .oss
  | .g5 => some .ut
  | .g10 => some .up
  | .t1 | .p2 | .p6 | .p12 | .p13 => some .x1
  | .t2 | .p3 | .p7 | .p14 => some .x2
  | .t3 => some .b5
  | .t4 => some .t
  | .p1 => some .b6
  | .p4 | .p8 => some .x3
  | .p5 => some .b3
  | .p9 => some .b4
  | .p10 => some .b7
  | .p11 => some .p
  | .p15 => some .pres
  | _ => none

/-- The register and the byte count a label reads from the sensor (R252, R256). -/
def readAt : Label → Option (Byte × Nat)
  | .b2 => some (regId, 1)
  | .b4 => some (regCal, calBytes)
  | .g4 => some (regData, 2)
  | .g9 => some (regData, 3)
  | _ => none

/-- The error a label's test reports (R301 to R304). -/
def errorAt : Label → Option Status
  | .b3 => some .idMismatch
  | .g0 | .l0 => some .notReady
  | .t2 => some .div0Temp
  | .p11 => some .div0Pres
  | _ => none

/-! ## What a statement can do -/

/-- `t` is `s` with the register `r` written and STEP advanced. -/
structure Writes (r : RegName) (s t : State) : Prop where
  frame : Frame s t
  step : t.step = nextLabel s.step
  written : ∀ q, t.written q = (q == r || s.written q)

/-- The state after a read answered in full (R76). -/
def fullRead (reg : Byte) (n : Nat) (s : State) : State :=
  advance { busRequest reg n s with
    latch := answerBytes s.draws n (answerScript s), rxq := [],
    trace := s.trace ++ .rq reg n n :: (answerBytes s.draws n (answerScript s)).map .rd }

/-- All a statement at a label other than IDLE can do when it goes on; at G.6 and G.11, that STEP enters the pass. -/
inductive Effect (s : State) : State → Prop
  | pass : s.step ∈ [.b3, .g0, .g6, .g11, .l0, .l1] → (s.step = .g0 ∨ s.step = .l0 → s.session = .ready) →
      (s.step = .l1 → s.lastTValid = true) → Effect s (advance s)
  | write {r : RegName} {t : State} : writtenAt s.step = some r → Writes r s t → Effect s t
  | record {e : Event} : s.step ∈ [.g2, .g3, .g7, .g8] → legalEvent e = true →
      (∀ n, e = .wait n → callWait s.waitCap n = .returns) → Effect s (advance (record e s))
  | fullRead {reg : Byte} {n : Nat} : readAt s.step = some (reg, n) → answerCount s n = n →
      Effect s (fullRead reg n s)
  | shortRead {reg : Byte} {n : Nat} : readAt s.step = some (reg, n) → answerCount s n < n →
      Effect s (raise (.bus reg n (answerCount s n)) (busRequest reg n s))
  | fail {e : Err} : errorAt s.step = some e.status → Effect s (raise e s)
  | b1 : s.step = .b1 → Effect s (stmtB1 s)
  | b5 : s.step = .b5 → Effect s (unpackCal s)
  | b6 : s.step = .b6 → Effect s (stmtB6 s)
  | g12 {t pres : W32} : s.step = .g12 → s.t = some t → s.pres = some pres →
      Effect s (finish (some pres) { s with lastT := some t, lastTValid := true })
  | answer {v : W32} : s.step = .l1 ∨ s.step = .l2 → Effect s (finish (some v) s)

section
variable {s t : State}

/-- The statements that write one working register: each of their meanings is a chain of operand reads (R40) that ends
in one update; T2 and P11 may report their zero divisor instead. -/
theorem effect_of_write {r : RegName} (hr : writtenAt s.step = some r) (h : step s = .next t) : Effect s t := by
  obtain ⟨l, hl⟩ : ∃ l, s.step = l := ⟨_, rfl⟩
  have hw := hr
  rw [hl] at hw
  revert t
  cases l <;> cases hw
  case t2 =>
    rw [step_sel hl rfl]
    intro t h
    obtain ⟨x1, md, -, -, ⟨-, rfl⟩ | ⟨-, mc, -, rfl⟩⟩ := execT2_cases h
    · exact .fail (by rw [hl]; rfl)
    · exact .write hr ⟨by constructor <;> rfl, rfl, fun q => by cases q <;> rfl⟩
  case p11 =>
    rw [step_sel hl rfl]
    intro t h
    obtain ⟨b4, -, ⟨-, rfl⟩ | ⟨-, b7, -, rfl⟩⟩ := execP11_cases h
    · exact .fail (by rw [hl]; rfl)
    · exact .write hr ⟨by constructor <;> rfl, rfl, fun q => by cases q <;> rfl⟩
  all_goals
    rw [step_sel hl rfl]
    simp only [exec, execClamp, execAsmUt, execAsmUp, execT1, execT3, execT4, execP1, execP2, execP3, execP4, execP5,
      execP6, execP7, execP8, execP9, execP10, execP12, execP13, execP14, execP15, forall_need_eq_next,
      Host.Outcome.next.injEq, forall_eq']
    intros
    exact .write hr ⟨by constructor <;> rfl, rfl, fun q => by cases q <;> rfl⟩

theorem effect_of_busRead {reg : Byte} {n : Nat} (hr : readAt s.step = some (reg, n)) :
    Effect s (busRead reg n s) := by
  obtain ⟨hlt, he⟩ | ⟨hn, he⟩ := busRead_cases reg n s
  · exact he ▸ .shortRead hr hlt
  · exact he ▸ .fullRead hr hn

theorem effect_of_requireReady (hl : s.step = .g0 ∨ s.step = .l0) : Effect s (requireReady s) := by
  cases hses : s.session with
  | ready =>
    rw [requireReady_ready hses]
    refine .pass ?_ (fun _ => hses) ?_ <;> obtain hl | hl := hl <;> simp [hl]
  | uninit =>
    rw [requireReady_uninit hses]
    refine .fail ?_
    obtain hl | hl := hl <;> rw [hl] <;> rfl

theorem effect_of_checkId (hl : s.step = .b3) : Effect s (checkId s) := by
  obtain ⟨-, he⟩ | ⟨-, he⟩ := checkId_cases (s := s) rfl
  · exact he ▸ .pass (by simp [hl]) (by simp [hl]) (by simp [hl])
  · exact he ▸ .fail (by rw [hl]; rfl)

theorem effect_of_stmtL1 (hl : s.step = .l1) : Effect s (stmtL1 s) := by
  cases hv : s.lastTValid with
  | true => exact stmtL1_valid hv ▸ .pass (by simp [hl]) (by simp [hl]) (fun _ => hv)
  | false => exact stmtL1_invalid hv ▸ .answer (.inl hl)

theorem legalEvent_startP (oss : BitVec 2) : legalEvent (.wr regCtrl (startPByte oss)) = true := by
  revert oss
  decide

theorem legalEvent_pDelay (oss : BitVec 2) : legalEvent (.wait (pDelay oss)) = true := by
  revert oss
  decide

theorem effect_of_wait {n : Nat} (hl : s.step ∈ [.g2, .g3, .g7, .g8]) (hn : legalEvent (.wait n) = true)
    (h : wait n s = .next t) : Effect s t := by
  obtain ⟨hret, rfl⟩ := wait_eq_next.1 h
  exact .record hl hn (by rintro _ ⟨⟩; exact hret)

/-- What a statement does when it goes on. -/
theorem effect_of_step (hs : s.step ∉ [.idle, .g6, .g11]) (h : step s = .next t) : Effect s t := by
  cases hr : writtenAt s.step with
  | some r => exact effect_of_write hr h
  | none =>
  cases hl : s.step with
  | b1 =>
    rw [step_b1 hl] at h
    cases h
    exact .b1 hl
  | b2 =>
    rw [step_b2 hl] at h
    cases h
    exact effect_of_busRead (by rw [hl]; rfl)
  | b3 =>
    rw [step_sel hl rfl] at h
    cases h
    exact effect_of_checkId hl
  | b4 =>
    rw [step_b4 hl] at h
    cases h
    exact effect_of_busRead (by rw [hl]; rfl)
  | b5 =>
    rw [step_sel hl rfl] at h
    cases h
    exact .b5 hl
  | b6 =>
    rw [step_b6 hl] at h
    cases h
    exact .b6 hl
  | g0 =>
    rw [step_g0 hl] at h
    cases h
    exact effect_of_requireReady (.inl hl)
  | g2 =>
    rw [step_g2 hl] at h
    cases h
    exact .record (by simp [hl]) rfl (by simp)
  | g3 =>
    rw [step_sel hl rfl] at h
    exact effect_of_wait (by simp [hl]) rfl h
  | g4 =>
    rw [step_g4 hl] at h
    cases h
    exact effect_of_busRead (by rw [hl]; rfl)
  | g7 =>
    rw [step_g7 hl] at h
    obtain ⟨oss, -, h⟩ := need_eq_next.1 h
    cases h
    exact .record (by simp [hl]) (legalEvent_startP oss) (by simp)
  | g8 =>
    rw [step_sel hl rfl] at h
    obtain ⟨oss, -, h⟩ := need_eq_next.1 h
    exact effect_of_wait (by simp [hl]) (legalEvent_pDelay oss) h
  | g9 =>
    rw [step_g9 hl] at h
    cases h
    exact effect_of_busRead (by rw [hl]; rfl)
  | g12 =>
    rw [step_g12 hl] at h
    obtain ⟨temp, ht, h⟩ := need_eq_next.1 h
    obtain ⟨pres, hp, h⟩ := need_eq_next.1 h
    cases h
    exact .g12 hl ht hp
  | l0 =>
    rw [step_l0 hl] at h
    cases h
    exact effect_of_requireReady (.inr hl)
  | l1 =>
    rw [step_l1 hl] at h
    cases h
    exact effect_of_stmtL1 hl
  | l2 =>
    rw [step_l2 hl] at h
    obtain ⟨temp, -, h⟩ := need_eq_next.1 h
    cases h
    exact .answer (.inr hl)
  | idle | g6 | g11 => simp [hl] at hs
  | _ =>
    rw [hl] at hr
    cases hr

/-! ## What a statement leaves unchanged -/

theorem Effect.step_cases (h : Effect s t) : t.step = nextLabel s.step ∨ t.step = .idle := by
  cases h with
  | pass | record | fullRead | b1 | b5 => exact .inl rfl
  | write _ hw => exact .inl hw.step
  | shortRead | fail | b6 | g12 | answer => exact .inr rfl

theorem Effect.waitCap (h : Effect s t) : t.waitCap = s.waitCap := by
  cases h with
  | write _ hw => exact hw.frame.waitCap
  | _ => rfl

theorem Effect.grain (h : Effect s t) : t.grain = s.grain := by
  cases h with
  | write _ hw => exact hw.frame.grain
  | _ => rfl

/-- SESSION is written at B.1 and B.6 alone (R31). -/
theorem Effect.session (h : Effect s t) (h1 : s.step ≠ .b1) (h6 : s.step ≠ .b6) : t.session = s.session := by
  cases h with
  | write _ hw => exact hw.frame.session
  | b1 hs => exact absurd hs h1
  | b6 hs => exact absurd hs h6
  | _ => rfl

/-- CAL is written at B.5 alone (R32). -/
theorem Effect.cal (h : Effect s t) (h5 : s.step ≠ .b5) : t.cal = s.cal := by
  cases h with
  | write _ hw => exact hw.frame.cal
  | b5 hs => exact absurd hs h5
  | _ => rfl

/-- LAST_T is written at G.12 alone (R257). -/
theorem Effect.lastT (h : Effect s t) (h12 : s.step ≠ .g12) : t.lastT = s.lastT := by
  cases h with
  | write _ hw => exact hw.frame.lastT
  | g12 hs => exact absurd hs h12
  | _ => rfl

/-- LAST_T_VALID is written at B.6 and G.12 alone (R42). -/
theorem Effect.lastTValid (h : Effect s t) (h6 : s.step ≠ .b6) (h12 : s.step ≠ .g12) : t.lastTValid = s.lastTValid := by
  cases h with
  | write _ hw => exact hw.frame.lastTValid
  | b6 hs => exact absurd hs h6
  | g12 hs => exact absurd hs h12
  | _ => rfl

/-- At a label that records no event and reads nothing the trace stays. -/
theorem Effect.trace_same (h : Effect s t) (hl : s.step ∉ [.g2, .g3, .g7, .g8]) (hr : readAt s.step = none) :
    t.trace = s.trace := by
  cases h with
  | write _ hw => exact hw.frame.trace
  | record hl' => exact absurd hl' hl
  | fullRead hr' | shortRead hr' => simp [hr] at hr'
  | _ => rfl

/-- A request that a label makes is one of the four reads (R103). -/
theorem legalEvent_request {l : Label} {reg : Byte} {n a : Nat} (hr : readAt l = some (reg, n)) (ha : a ≤ n) :
    legalEvent (.rq reg n a) = true := by
  cases l <;> cases hr <;> exact decide_eq_true ha

/-- What a statement adds to the trace is legal; and a wait is added alone, by a call that returned. -/
theorem Effect.trace (h : Effect s t) : ∃ es, t.trace = s.trace ++ es ∧ (∀ e ∈ es, legalEvent e = true) ∧
    ∀ n, .wait n ∈ es → es = [.wait n] ∧ callWait s.waitCap n = .returns := by
  cases h with
  | write _ hw => exact ⟨[], by simp [hw.frame.trace], by simp, by simp⟩
  | @record e _ he hret =>
    refine ⟨[e], rfl, by simpa using he, fun n hn => ?_⟩
    obtain rfl := List.mem_singleton.1 hn
    exact ⟨rfl, hret n rfl⟩
  | @fullRead reg n hr hn =>
    refine ⟨_, rfl, ?_, by simp⟩
    rintro e (_ | ⟨_, he⟩)
    · exact legalEvent_request hr le_rfl
    · obtain ⟨b, -, rfl⟩ := List.mem_map.1 he
      rfl
  | @shortRead reg n hr hn =>
    exact ⟨[.rq reg n (answerCount s n)], rfl, by simpa using legalEvent_request hr hn.le, by simp⟩
  | _ => exact ⟨[], (List.append_nil _).symm, by simp, by simp⟩

end

/-! ## Paths of statements -/

/-- From `s` to `t` by statements at labels of `L`. -/
abbrev Path (L : List Label) : State → State → Prop :=
  Relation.ReflTransGen fun s t => s.step ∈ L ∧ Effect s t

section
variable {L : List Label} {s t : State}

theorem Path.single (hs : s.step ∈ L) (h : Effect s t) : Path L s t :=
  Relation.ReflTransGen.single ⟨hs, h⟩

theorem Path.mono {L' : List Label} (hL : ∀ l ∈ L, l ∈ L') (h : Path L s t) : Path L' s t :=
  Relation.ReflTransGen.mono (fun _ _ hl => ⟨hL _ hl.1, hl.2⟩) _ _ h

/-- What every statement of the path keeps, the path keeps. -/
theorem Path.keeps {α : Type} {f : State → α} (hf : ∀ u v, u.step ∈ L → Effect u v → f v = f u) (h : Path L s t) :
    f t = f s := by
  induction h with
  | refl => rfl
  | tail _ hl ih => exact (hf _ _ hl.1 hl.2).trans ih

/-- A path that moves has a last statement; what every statement that stays inside the sequence keeps is as at the start
before it. -/
theorem Path.last {α : Type} {f : State → α}
    (hf : ∀ u v, u.step ∈ L → v.step ∈ L → Effect u v → f v = f u) (h : Path L s t) :
    t = s ∨ ∃ u, u.step ∈ L ∧ Effect u t ∧ f u = f s := by
  induction h with
  | refl => exact .inl rfl
  | @tail u v _ hl ih =>
    refine .inr ⟨u, hl.1, hl.2, ?_⟩
    obtain rfl | ⟨w, hw, he, hfw⟩ := ih
    · rfl
    · exact (hf _ _ hw hl.1 he).trans hfw

end

end Sys2Proof.Machine

/-! Proofs of the statements that a pass and a host operation, run as one step, are their listings run one statement a
step (R44, R83, R251, R322), and the account of a whole step that follows (`StepPath`). -/

namespace Sys2Proof.Machine

/-! ## A listing is a run of steps -/

/-- The statements `fs` are what a step does at the labels `ls` in turn, each going on to the next one, the last to `out`,
or ending the operation. -/
inductive Listing (out : Label) : List Label → List (State → Out) → Prop
  | nil : Listing out [] []
  | cons {l : Label} {ls : List Label} {f : State → Out} {fs : List (State → Out)} :
      (∀ s, s.step = l → step s = f s) →
      (∀ s t, s.step = l → step s = .next t → t.step = .idle ∨ t.step = ls.headD out) →
      Listing out ls fs → Listing out (l :: ls) (f :: fs)

section
variable {M : Host.Core} {s t : M.State}

theorem run_succ_of_next (k : Nat) (h : M.step s = .next t) : M.run (k + 1) s = M.run k t := by
  simp [Host.Core.run, h]

theorem run_one_of_fault {r : M.Fault} (h : M.step s = .fault r) : M.run 1 s = .fault r := by
  simp [Host.Core.run, h]

theorem run_one_of_refused {r : M.Refusal} (h : M.step s = .refused r) : M.run 1 s = .refused r := by
  simp [Host.Core.run, h]

end

section
variable {out : Label} {ls : List Label} {fs : List (State → Out)} {s t : State}

/-- A statement in front of a listing, at the label before it. -/
theorem Listing.stmt {l : Label} {f : State → Out} (hf : ∀ s, s.step = l → step s = f s)
    (hl : l ∉ [.idle, .g6, .g11]) (hnext : nextLabel l = ls.headD out) (h : Listing out ls fs) :
    Listing out (l :: ls) (f :: fs) := by
  refine .cons hf (fun s t hs hstep => ?_) h
  rw [← hnext, ← hs]
  exact (effect_of_step (hs ▸ hl) hstep).step_cases.symm

theorem runSeq_cons_refused {f : State → Out} {r : Refusal} (h : f s = .refused r) :
    runSeq (f :: fs) s = .refused r := by
  simp [runSeq, h]

/-- A listing run as one step is at most as many single steps as it has statements. -/
theorem Listing.run (h : Listing out ls fs) (hs : s.step = ls.headD out) :
    ∃ k ≤ fs.length, Sys2Proof.core.run k s = runSeq fs s := by
  induction h generalizing s with
  | nil => exact ⟨0, le_rfl, rfl⟩
  | @cons l ls f fs hf hgo _ ih =>
    have hfs := hf s hs
    cases ho : f s with
    | next t =>
      rw [ho] at hfs
      by_cases hi : t.step = .idle
      · exact ⟨1, by simp, (run_succ_of_next 0 hfs).trans (runSeq_cons_stop ho hi).symm⟩
      · obtain ⟨k, hk, hrun⟩ := ih ((hgo s t hs hfs).resolve_left hi)
        exact ⟨k + 1, by simpa using hk, (run_succ_of_next k hfs).trans (hrun.trans (runSeq_cons_go ho hi).symm)⟩
    | fault r => exact ⟨1, by simp, (run_one_of_fault (hfs.trans ho)).trans (runSeq_cons_fault ho).symm⟩
    | refused r => exact ⟨1, by simp, (run_one_of_refused (hfs.trans ho)).trans (runSeq_cons_refused ho).symm⟩

/-- A listing that goes on took a path of its statements, to IDLE or to where it leads. -/
theorem Listing.path {L : List Label} (h : Listing out ls fs)
    (hL : ∀ u v, u.step ∈ ls → step u = .next v → Path L u v) (hs : s.step = ls.headD out)
    (hr : runSeq fs s = .next t) : Path L s t ∧ (t.step = .idle ∨ t.step = out) := by
  induction h generalizing s with
  | nil =>
    cases hr
    exact ⟨.refl, .inr hs⟩
  | @cons l ls f fs hf hgo _ ih =>
    obtain ⟨u, hu, hcase⟩ := runSeq_cons_cases hr
    rw [← hf s hs] at hu
    have hp : Path L s u := hL s u (by simp [show s.step = l from hs]) hu
    obtain ⟨hi, rfl⟩ | ⟨hi, hrun⟩ := hcase
    · exact ⟨hp, .inl hi⟩
    · obtain ⟨hp', hend⟩ := ih (fun u v hm => hL u v (by simp [hm])) ((hgo s u hs hu).resolve_left hi) hrun
      exact ⟨hp.trans hp', hend⟩

end

/-! ## The two passes -/

theorem listing_compT : Listing .g7 [.t1, .t2, .t3, .t4] [execT1, execT2, execT3, execT4] := by
  iterate 4 refine .stmt (fun _ hs => step_sel hs rfl) (by decide) rfl ?_
  exact .nil

theorem listing_compP :
    Listing .g12 [.p1, .p2, .p3, .p4, .p5, .p6, .p7, .p8, .p9, .p10, .p11, .p12, .p13, .p14, .p15]
      [execP1, execP2, execP3, execP4, execP5, execP6, execP7, execP8, execP9, execP10, execP11, execP12, execP13,
        execP14, execP15] := by
  iterate 15 refine .stmt (fun _ hs => step_sel hs rfl) (by decide) rfl ?_
  exact .nil

/-- Settles O60: the two passes are their listings. -/
theorem passesAreTheirSubSteps : Obligations.PassesAreTheirSubSteps :=
  ⟨fun _ => listing_compT.run rfl, fun _ => listing_compP.run rfl⟩

/-- The labels of a whole pass (R160, R180). -/
def passLabels : List Label :=
  [.g6, .t1, .t2, .t3, .t4, .g11, .p1, .p2, .p3, .p4, .p5, .p6, .p7, .p8, .p9, .p10, .p11, .p12, .p13, .p14, .p15]

section
variable {s t : State}

/-- Statements taken one a step make a path. -/
theorem path_of_labels {ls L : List Label} (h : ∀ l ∈ ls, l ∈ L ∧ l ∉ [.idle, .g6, .g11]) :
    ∀ u v, u.step ∈ ls → step u = .next v → Path L u v :=
  fun _ _ hm huv => .single (h _ hm).1 (effect_of_step (h _ hm).2 huv)

/-- Entering a pass is what a statement at its label would do by advancing. -/
theorem path_enters_pass (hs : s.step ∈ [.g6, .g11]) : Path passLabels s (advance s) := by
  have hall : ∀ l ∈ [Label.g6, .g11], l ∈ [.b3, .g0, .g6, .g11, .l0, .l1] ∧ l ∈ passLabels ∧
      ¬ (l = .g0 ∨ l = .l0) ∧ l ≠ .l1 := by decide
  obtain ⟨hm, hpass, h0, h1⟩ := hall _ hs
  exact .single hpass (.pass hm (fun h => absurd h h0) (fun h => absurd h h1))

theorem path_of_compT (hs : s.step = .g6) (h : step s = .next t) :
    Path passLabels s t ∧ (t.step = .idle ∨ t.step = .g7) := by
  rw [step_sel hs rfl] at h
  have henter : enter .t1 s = advance s := by rw [enter, advance, hs]; rfl
  obtain ⟨hp, hend⟩ := listing_compT.path (L := passLabels) (path_of_labels (by decide)) rfl h
  exact ⟨(path_enters_pass (by simp [hs])).trans (henter ▸ hp), hend⟩

theorem path_of_compP (hs : s.step = .g11) (h : step s = .next t) :
    Path passLabels s t ∧ (t.step = .idle ∨ t.step = .g12) := by
  rw [step_sel hs rfl] at h
  have henter : enter .p1 s = advance s := by rw [enter, advance, hs]; rfl
  obtain ⟨hp, hend⟩ := listing_compP.path (L := passLabels) (path_of_labels (by decide)) rfl h
  exact ⟨(path_enters_pass (by simp [hs])).trans (henter ▸ hp), hend⟩

end

/-! ## The three host operations -/

theorem listing_begin :
    Listing .idle [.b1, .b2, .b3, .b4, .b5, .b6]
      [fun s => .next (stmtB1 s), execReadId, execCheckId, execReadCal, execUnpackCal, fun s => .next (stmtB6 s)] := by
  refine .stmt (fun _ => step_b1) (by decide) rfl ?_
  refine .stmt (fun _ => step_b2) (by decide) rfl ?_
  refine .stmt (fun _ hs => step_sel hs rfl) (by decide) rfl ?_
  refine .stmt (fun _ => step_b4) (by decide) rfl ?_
  refine .stmt (fun _ hs => step_sel hs rfl) (by decide) rfl ?_
  exact .stmt (fun _ => step_b6) (by decide) rfl .nil

/-- The labels of GET_PRESSURE's statements (R256). -/
def getPressureLabels : List Label := [.g0, .g1, .g2, .g3, .g4, .g5, .g6, .g7, .g8, .g9, .g10, .g11, .g12]

theorem listing_getPressure :
    Listing .idle getPressureLabels
      [fun s => .next (requireReady s), execClamp, execStartT, execSelectDelay .temperature, execReadUt, execAsmUt,
        execCompT, stmtG7, execSelectDelay .pressure, execReadUp, execAsmUp, execCompP, stmtG12] := by
  refine .stmt (fun _ => step_g0) (by decide) rfl ?_
  refine .stmt (fun _ hs => step_sel hs rfl) (by decide) rfl ?_
  refine .stmt (fun _ => step_g2) (by decide) rfl ?_
  refine .stmt (fun _ hs => step_sel hs rfl) (by decide) rfl ?_
  refine .stmt (fun _ => step_g4) (by decide) rfl ?_
  refine .stmt (fun _ hs => step_sel hs rfl) (by decide) rfl ?_
  refine .cons (fun _ hs => step_sel hs rfl) (fun _ _ hs h => (path_of_compT hs h).2) ?_
  refine .stmt (fun _ => step_g7) (by decide) rfl ?_
  refine .stmt (fun _ hs => step_sel hs rfl) (by decide) rfl ?_
  refine .stmt (fun _ => step_g9) (by decide) rfl ?_
  refine .stmt (fun _ hs => step_sel hs rfl) (by decide) rfl ?_
  refine .cons (fun _ hs => step_sel hs rfl) (fun _ _ hs h => (path_of_compP hs h).2) ?_
  exact .stmt (fun _ => step_g12) (by decide) rfl .nil

theorem listing_getLastTemperature :
    Listing .idle [.l0, .l1, .l2]
      [fun s => .next (requireReady s), fun s => .next (stmtL1 s), stmtL2] := by
  refine .stmt (fun _ => step_l0) (by decide) rfl ?_
  refine .stmt (fun _ => step_l1) (by decide) rfl ?_
  exact .stmt (fun _ => step_l2) (by decide) rfl .nil

/-- The labels of BEGIN (R252). -/
def beginLabels : List Label := [.b1, .b2, .b3, .b4, .b5, .b6]

/-- The labels of GET_PRESSURE, with the sub-steps of its passes (R44, R256). -/
def pressureLabels : List Label := getPressureLabels ++ passLabels

/-- The labels of GET_LAST_TEMPERATURE (R259). -/
def lastLabels : List Label := [.l0, .l1, .l2]

/-- The three host operations: selector, first label and labels (R104). -/
def hostListings : List (BitVec 2 × Label × List Label) :=
  [(0b00, .b1, beginLabels), (0b01, .g0, pressureLabels), (0b10, .l0, lastLabels)]

section
variable {s t : State}

theorem begin_path (h : execBegin s = .next t) :
    Path beginLabels (present 0b00 s.modeIn .b1 s) t ∧ t.step = .idle := by
  rw [execBegin_eq_runSeq] at h
  obtain ⟨hp, hend⟩ := listing_begin.path (L := beginLabels)
    (path_of_labels (by decide)) rfl h
  exact ⟨hp, hend.elim id id⟩

theorem getPressure_path {m : Byte} (h : execGetPressure m s = .next t) :
    Path pressureLabels (present 0b01 m .g0 s) t ∧ t.step = .idle := by
  have hpass : ∀ l ∈ passLabels, l ∈ pressureLabels := by decide
  have hsplit : ∀ l ∈ getPressureLabels,
      l = .g6 ∨ l = .g11 ∨ (l ∈ pressureLabels ∧ l ∉ [.idle, .g6, .g11]) := by decide
  have hL : ∀ u v, u.step ∈ getPressureLabels → step u = .next v → Path pressureLabels u v := by
    intro u v hm huv
    obtain h6 | h11 | ⟨hm, hne⟩ := hsplit _ hm
    · exact (path_of_compT h6 huv).1.mono hpass
    · exact (path_of_compP h11 huv).1.mono hpass
    · exact .single hm (effect_of_step hne huv)
  obtain ⟨hp, hend⟩ := listing_getPressure.path hL rfl h
  exact ⟨hp, hend.elim id id⟩

theorem getLastTemperature_path (h : execGetLastTemperature s = .next t) :
    Path lastLabels (present 0b10 s.modeIn .l0 s) t ∧ t.step = .idle := by
  obtain ⟨hp, hend⟩ := listing_getLastTemperature.path (L := lastLabels)
    (path_of_labels (by decide)) rfl h
  exact ⟨hp, hend.elim id id⟩

end

/-! ## A whole step -/

section
variable (s : State)

@[simp] theorem accept_session : (accept s).session = s.session := by unfold accept; split <;> rfl
@[simp] theorem accept_cal : (accept s).cal = s.cal := by unfold accept; split <;> rfl
@[simp] theorem accept_lastT : (accept s).lastT = s.lastT := by unfold accept; split <;> rfl
@[simp] theorem accept_lastTValid : (accept s).lastTValid = s.lastTValid := by unfold accept; split <;> rfl
@[simp] theorem accept_waitCap : (accept s).waitCap = s.waitCap := by unfold accept; split <;> rfl
@[simp] theorem accept_grain : (accept s).grain = s.grain := by unfold accept; split <;> rfl
@[simp] theorem accept_trace : (accept s).trace = s.trace := by unfold accept; split <;> rfl
@[simp] theorem accept_written (r : RegName) : (accept s).written r = s.written r := by unfold accept; split <;> rfl

end

section
variable {s t : State}

/-- The host has written the ports, so presenting the operation on them again only puts STEP at the first label. -/
theorem present_accept {r : HostReq} {rest : List HostReq} (hs : s.step = .idle) (hq : s.hostQ = r :: rest) (l : Label) :
    present r.opSel r.modeIn l (accept s) = enter l (accept s) := by
  rw [accept_idle hs hq]
  rfl

/-- All a step can do (R44): wait; run a statement; run a pass; or start a host operation, and go some way in it. -/
inductive StepPath (s t : State) : Prop
  | waits : t = s → StepPath s t
  | statement : s.step ≠ .idle → Effect s t → StepPath s t
  | pass : s.step ∈ [.g6, .g11] → Path passLabels s t → StepPath s t
  | operation {opSel : BitVec 2} {l : Label} {L : List Label} : (opSel, l, L) ∈ hostListings → s.presents opSel →
      (s.grain = .statement → t = enter l (accept s)) → Path L (enter l (accept s)) t → StepPath s t

theorem selector_cases (opSel : BitVec 2) : opSel = 0b00 ∨ opSel = 0b01 ∨ opSel = 0b10 ∨ opSel = 0b11 := by
  revert opSel
  decide

/-- A presented operation that goes on. -/
theorem path_of_presented {r : HostReq} {rest : List HostReq} {i : Instr} {opSel : BitVec 2} {l : Label}
    {L : List Label} (hs : s.step = .idle) (hq : s.hostQ = r :: rest) (hm : (opSel, l, L) ∈ hostListings)
    (ho : r.opSel = opSel) (hd : decodeHost r.opSel r.modeIn = i) (hl : firstLabel i = some l)
    (hpath : exec i (accept s) = .next t → Path L (enter l (accept s)) t) (h : step s = .next t) : StepPath s t := by
  have hp : s.presents opSel := ⟨hs, r.modeIn, rest, by rw [hq, ← ho]⟩
  rw [step_of_code (fetch_idle hs hq) (congrArg Except.ok hd)] at h
  cases hg : s.grain with
  | statement =>
    rw [runOperation_starts (by simp [hg]) hl] at h
    cases h
    exact .operation hm hp (fun _ => rfl) .refl
  | operation =>
    rw [runOperation_meaning (.inl (by simp [hg]))] at h
    exact .operation hm hp (by simp [hg]) (hpath h)

theorem stepPath_of_idle (hs : s.step = .idle) (h : step s = .next t) : StepPath s t := by
  cases hq : s.hostQ with
  | nil =>
    rw [idleCoreWaits s hs hq] at h
    cases h
    exact .waits rfl
  | cons r rest =>
    obtain ⟨opSel, modeIn⟩ := r
    have hpres := present_accept hs hq
    have hmode : (accept s).modeIn = modeIn := by rw [accept_idle hs hq]
    obtain rfl | rfl | rfl | rfl := selector_cases opSel
    · exact path_of_presented hs hq (i := .beginOp) (.head _) rfl rfl rfl
        (fun h => hpres .b1 ▸ hmode ▸ (begin_path h).1) h
    · exact path_of_presented hs hq (i := .getPressure modeIn) (.tail _ (.head _)) rfl rfl rfl
        (fun h => hpres .g0 ▸ (getPressure_path h).1) h
    · exact path_of_presented hs hq (i := .getLastTemperature) (.tail _ (.tail _ (.head _))) rfl rfl rfl
        (fun h => hpres .l0 ▸ hmode ▸ (getLastTemperature_path h).1) h
    · rw [reservedSelectorIsRefused.2 s ⟨hs, modeIn, rest, hq⟩] at h
      cases h

theorem stepPath_of_step (h : step s = .next t) : StepPath s t := by
  by_cases hs : s.step = .idle
  · exact stepPath_of_idle hs h
  by_cases h6 : s.step = .g6
  · exact .pass (by simp [h6]) (path_of_compT h6 h).1
  by_cases h11 : s.step = .g11
  · exact .pass (by simp [h11]) (path_of_compP h11 h).1
  exact .statement hs (effect_of_step (by simp [hs, h6, h11]) h)

end

end Sys2Proof.Machine

/-! Proofs of the whole-machine statements, read off the account of a step (`StepPath`): the listings (R44, R83, R322),
the bus (R72, R80, R109), SESSION (R31, R312), and CAL, LAST_T and its flag (R32, R42, R254, R257). -/

namespace Sys2Proof.Machine

/-! ## Host operations are their listings -/

/-- A presented operation that is taken one statement a step starts in one step, and then runs as from its first
label. -/
theorem run_of_presented {s : State} {r : HostReq} {rest : List HostReq} {i : Instr} {l : Label} {n : Nat} {o : Out}
    (hs : s.step = .idle) (hq : s.hostQ = r :: rest) (hg : s.grain = .statement)
    (hd : decodeHost r.opSel r.modeIn = i) (hl : firstLabel i = some l)
    (h : ∃ k ≤ n, Sys2Proof.core.run k (present r.opSel r.modeIn l (accept s)) = o) :
    ∃ k ≤ n + 1, Sys2Proof.core.run k s = o := by
  obtain ⟨k, hk, hrun⟩ := h
  refine ⟨k + 1, by omega, ?_⟩
  have hstep : step s = .next (enter l (accept s)) := by
    rw [step_of_code (fetch_idle hs hq) (congrArg Except.ok hd), runOperation_starts (by simp [hg]) hl]
  rw [← hrun, present_accept hs hq]
  exact run_succ_of_next k hstep

theorem run_begin (s : State) : ∃ k ≤ 6, Sys2Proof.core.run k (present 0b00 s.modeIn .b1 s) = exec .beginOp s := by
  rw [exec, execBegin_eq_runSeq]
  exact listing_begin.run rfl

theorem run_getPressure (s : State) (m : Byte) :
    ∃ k ≤ 13, Sys2Proof.core.run k (present 0b01 m .g0 s) = exec (.getPressure m) s :=
  listing_getPressure.run rfl

theorem run_getLastTemperature (s : State) :
    ∃ k ≤ 3, Sys2Proof.core.run k (present 0b10 s.modeIn .l0 s) = exec .getLastTemperature s :=
  listing_getLastTemperature.run rfl

theorem passLabels_quiet : ∀ l ∈ passLabels, l ∉ [.g2, .g3, .g7, .g8] ∧ readAt l = none := by decide

/-- With one statement a step, a step records a wait alone, and only one that returned: a pass records nothing, and an
operation that starts has recorded nothing yet. -/
theorem waits_alone {s t : State} (hg : s.grain = .statement) (h : step s = .next t) :
    ∃ es, t.trace = s.trace ++ es ∧ ∀ n, .wait n ∈ es → es = [.wait n] ∧ callWait s.waitCap n = .returns := by
  obtain rfl | ⟨-, he⟩ | ⟨-, hp⟩ | ⟨-, -, hstart, -⟩ := stepPath_of_step h
  · exact ⟨[], by simp, by simp⟩
  · obtain ⟨es, htr, -, hwait⟩ := he.trace
    exact ⟨es, htr, hwait⟩
  · have htr : t.trace = s.trace := hp.keeps (f := State.trace) fun u v hm he => by
      obtain ⟨hrecord, hread⟩ := passLabels_quiet _ hm
      exact he.trace_same hrecord hread
    exact ⟨[], by simp [htr], by simp⟩
  · rw [hstart hg]
    exact ⟨[], by simp, by simp⟩

/-- What every statement keeps and presenting keeps, a step keeps. -/
theorem step_keeps {α : Type} {f : State → α} (hf : ∀ u v, Effect u v → f v = f u)
    (hstart : ∀ s l, f (enter l (accept s)) = f s) {s t : State} (h : step s = .next t) : f t = f s := by
  obtain rfl | ⟨-, he⟩ | ⟨-, hp⟩ | ⟨-, -, -, hp⟩ := stepPath_of_step h
  · rfl
  · exact hf _ _ he
  · exact hp.keeps fun u v _ => hf u v
  · exact (hp.keeps fun u v _ => hf u v).trans (hstart _ _)

/-- Settles O59: by the listings of the three operations and the account of a step. -/
theorem hostOperationsAreTheirListings : Obligations.HostOperationsAreTheirListings := by
  refine ⟨run_begin, run_getPressure, run_getLastTemperature, fun s r rest hs hq hg => ?_, fun s t hg h => waits_alone hg h,
    fun s t h => step_keeps (f := State.grain) (fun _ _ he => he.grain) (by simp) h⟩
  have hmode : (accept s).modeIn = r.modeIn := by rw [accept_idle hs hq]
  refine ⟨fun ho => ?_, fun ho => ?_, fun ho => ?_⟩
  · exact run_of_presented hs hq hg (i := .beginOp) (by rw [ho]; rfl) rfl (by rw [ho, ← hmode]; exact run_begin _)
  · exact run_of_presented hs hq hg (i := .getPressure r.modeIn) (by rw [ho]; rfl) rfl
      (by rw [ho]; exact run_getPressure _ _)
  · exact run_of_presented hs hq hg (i := .getLastTemperature) (by rw [ho]; rfl) rfl
      (by rw [ho, ← hmode]; exact run_getLastTemperature _)

/-! ## The bus -/

/-- From `s` to `t` the trace grew, by legal entries alone. -/
def GrowsLegally (s t : State) : Prop :=
  ∃ es, t.trace = s.trace ++ es ∧ ∀ e ∈ es, legalEvent e = true

theorem GrowsLegally.of_eq {s t : State} (h : t.trace = s.trace) : GrowsLegally s t := ⟨[], by simp [h], by simp⟩

theorem GrowsLegally.trans {s t u : State} (h : GrowsLegally s t) (k : GrowsLegally t u) : GrowsLegally s u := by
  obtain ⟨es, hes, hl⟩ := h
  obtain ⟨es', hes', hl'⟩ := k
  refine ⟨es ++ es', by rw [hes', hes, List.append_assoc], fun e he => ?_⟩
  exact (List.mem_append.1 he).elim (hl e) (hl' e)

theorem Effect.growsLegally {s t : State} (h : Effect s t) : GrowsLegally s t := by
  obtain ⟨es, htr, hl, -⟩ := h.trace
  exact ⟨es, htr, hl⟩

theorem Path.growsLegally {L : List Label} {s t : State} (h : Path L s t) : GrowsLegally s t := by
  induction h with
  | refl => exact .of_eq rfl
  | tail _ hl ih => exact ih.trans hl.2.growsLegally

/-- Settles O56: each statement adds legal entries, and a step is a path of statements. -/
theorem everyStepKeepsTheBusLegal : Obligations.EveryStepKeepsTheBusLegal := by
  intro s t h
  obtain rfl | ⟨-, he⟩ | ⟨-, hp⟩ | ⟨-, -, -, hp⟩ := stepPath_of_step h
  · exact GrowsLegally.of_eq rfl
  · exact he.growsLegally
  · exact hp.growsLegally
  · exact (GrowsLegally.of_eq (by simp)).trans hp.growsLegally

/-! ## SESSION, CAL and the cached temperature -/

/-- Where a step changes what only statements at the labels `B` write, it ran one of them: at its own label, or in the
host operation of the one selector whose listing has such a label. -/
theorem changed_at {α : Type} {f : State → α} {B : List Label} {opSel : BitVec 2}
    (hf : ∀ u v, Effect u v → u.step ∉ B → f v = f u) (hstart : ∀ s l, f (enter l (accept s)) = f s)
    (hpass : ∀ l ∈ passLabels, l ∉ B) (hops : ∀ e ∈ hostListings, e.1 ≠ opSel → ∀ l ∈ e.2.2, l ∉ B)
    {s t : State} (h : step s = .next t) (hne : f t ≠ f s) : s.step ∈ B ∨ s.presents opSel := by
  by_contra hnot
  obtain ⟨hB, hp⟩ := not_or.1 hnot
  refine hne ?_
  obtain rfl | ⟨-, he⟩ | ⟨-, hpath⟩ | ⟨hm, hop, -, hpath⟩ := stepPath_of_step h
  · rfl
  · exact hf _ _ he hB
  · exact hpath.keeps fun u v hu he => hf u v he (hpass _ hu)
  · refine (hpath.keeps fun u v hu he => hf u v he (hops _ hm ?_ _ hu)).trans (hstart _ _)
    rintro rfl
    exact hp hop

/-- Settles O54: SESSION is written at B.1 and B.6 alone, and they are BEGIN's. -/
theorem onlyBeginChangesTheSession : Obligations.OnlyBeginChangesTheSession := by
  intro s t h hne
  have hB := changed_at (f := State.session) (B := [.b1, .b6]) (opSel := 0b00)
    (fun u v he hu => he.session (by simp_all) (by simp_all)) (by simp) (by decide) (by decide) h hne
  simpa [or_assoc] using hB

/-- G.12 commits and ends the operation (R257). -/
theorem Effect.at_g12 {s t : State} (h : Effect s t) (hs : s.step = .g12) :
    ∃ temp pres, s.t = some temp ∧ s.pres = some pres ∧
      t = finish (some pres) { s with lastT := some temp, lastTValid := true } := by
  cases h with
  | g12 _ ht hp => exact ⟨_, _, ht, hp, rfl⟩
  | write hr => simp [hs, writtenAt] at hr
  | fullRead hr | shortRead hr => simp [hs, readAt] at hr
  | fail hr => simp [hs, errorAt] at hr
  | pass hl | record hl | b1 hl | b5 hl | b6 hl | answer hl => simp [hs] at hl

/-- B.6 makes the session READY and ends the operation (R254). -/
theorem Effect.at_b6 {s t : State} (h : Effect s t) (hs : s.step = .b6) : t = stmtB6 s := by
  cases h with
  | b6 => rfl
  | write hr => simp [hs, writtenAt] at hr
  | fullRead hr | shortRead hr => simp [hs, readAt] at hr
  | fail hr => simp [hs, errorAt] at hr
  | pass hl | record hl | b1 hl | b5 hl | g12 hl | answer hl => simp [hs] at hl

/-- Where a step changes what only a statement that ends its operation writes, that statement was the last one run. -/
theorem changed_by_last {α : Type} {f : State → α}
    (hf : ∀ u v, Effect u v → f v ≠ f u → v.step = .idle ∧ u.step ∉ passLabels)
    (hstart : ∀ s l, f (enter l (accept s)) = f s) {s t : State} (h : step s = .next t) (hne : f t ≠ f s) :
    ∃ u, Effect u t ∧ f t ≠ f u ∧ (u.step = s.step ∨ ∃ e ∈ hostListings, s.presents e.1 ∧ u.step ∈ e.2.2) := by
  obtain rfl | ⟨-, he⟩ | ⟨-, hp⟩ | ⟨hm, hop, -, hp⟩ := stepPath_of_step h
  · exact absurd rfl hne
  · exact ⟨s, he, hne, .inl rfl⟩
  · refine absurd (hp.keeps fun u v hu he => ?_) hne
    by_contra hc
    exact (hf u v he hc).2 hu
  · have hidle : ∀ e ∈ hostListings, .idle ∉ e.2.2 := by decide
    obtain rfl | ⟨u, hu, he, hfu⟩ := hp.last (f := f) fun u v _ hv he => by
      by_contra hc
      exact hidle _ hm ((hf u v he hc).1 ▸ hv)
    · exact absurd (hstart s _) hne
    · exact ⟨u, he, by rw [hfu, hstart]; exact hne, .inr ⟨_, hm, hop, hu⟩⟩

theorem lastT_changes {u v : State} (he : Effect u v) (hne : v.lastT ≠ u.lastT) :
    u.step = .g12 ∧ v.step = .idle ∧ v.status = some .ok := by
  have hs : u.step = .g12 := by
    by_contra hs
    exact hne (he.lastT hs)
  obtain ⟨temp, pres, -, -, rfl⟩ := he.at_g12 hs
  exact ⟨hs, rfl, rfl⟩

theorem lastTValid_changes {u v : State} (he : Effect u v) (hne : v.lastTValid ≠ u.lastTValid) :
    v.step = .idle ∧ v.status = some .ok ∧
      ((u.step = .g12 ∧ v.lastTValid = true) ∨ (u.step = .b6 ∧ v.lastTValid = false)) := by
  by_cases h12 : u.step = .g12
  · obtain ⟨temp, pres, -, -, rfl⟩ := he.at_g12 h12
    exact ⟨rfl, rfl, .inl ⟨h12, rfl⟩⟩
  by_cases h6 : u.step = .b6
  · obtain rfl := he.at_b6 h6
    exact ⟨rfl, rfl, .inr ⟨h6, rfl⟩⟩
  exact absurd (he.lastTValid h6 h12) hne

theorem presents_of_g12 {s : State} (h : ∃ e ∈ hostListings, s.presents e.1 ∧ .g12 ∈ e.2.2) : s.presents 0b01 := by
  have hall : ∀ e ∈ hostListings, .g12 ∈ e.2.2 → e.1 = 0b01 := by decide
  obtain ⟨e, hm, hp, h12⟩ := h
  exact hall e hm h12 ▸ hp

theorem presents_of_b6 {s : State} (h : ∃ e ∈ hostListings, s.presents e.1 ∧ .b6 ∈ e.2.2) : s.presents 0b00 := by
  have hall : ∀ e ∈ hostListings, .b6 ∈ e.2.2 → e.1 = 0b00 := by decide
  obtain ⟨e, hm, hp, h6⟩ := h
  exact hall e hm h6 ▸ hp

/-- Settles O55: CAL is written at B.5 alone; the cache and its flag by statements that end their operation with
E_OK. -/
theorem onlyTheirStepsWriteCalAndLastT : Obligations.OnlyTheirStepsWriteCalAndLastT := by
  refine fun s t h => ⟨fun hne => ?_, fun hne => ?_, fun hne => ?_⟩
  · have hB := changed_at (f := State.cal) (B := [.b5]) (opSel := 0b00) (fun u v he hu => he.cal (by simpa using hu))
      (by simp) (by decide) (by decide) h hne
    simpa using hB
  · obtain ⟨u, he, hne', hat⟩ := changed_by_last (f := State.lastT)
      (fun u v he hne => by
        obtain ⟨h12, hidle, -⟩ := lastT_changes he hne
        exact ⟨hidle, by rw [h12]; decide⟩) (by simp) h hne
    obtain ⟨h12, -, hok⟩ := lastT_changes he hne'
    rw [h12] at hat
    exact ⟨hat.imp Eq.symm presents_of_g12, hok⟩
  · obtain ⟨u, he, hne', hat⟩ := changed_by_last (f := State.lastTValid)
      (fun u v he hne => by
        obtain ⟨hidle, -, ⟨hl, -⟩ | ⟨hl, -⟩⟩ := lastTValid_changes he hne
        · exact ⟨hidle, by rw [hl]; decide⟩
        · exact ⟨hidle, by rw [hl]; decide⟩) (by simp) h hne
    obtain ⟨-, hok, hcase⟩ := lastTValid_changes he hne'
    refine ⟨hok, hcase.imp (fun ⟨hl, hv⟩ => ⟨hv, ?_⟩) (fun ⟨hl, hv⟩ => ⟨hv, ?_⟩)⟩
    · rw [hl] at hat
      exact hat.imp Eq.symm presents_of_g12
    · rw [hl] at hat
      exact hat.imp Eq.symm presents_of_b6

end Sys2Proof.Machine

/-! Proofs of the statements on the invariant (R40, R42, R250, R254): every statement keeps it, so every step does; and
under it every statement finds its operands written, so no step stops for one. -/

namespace Sys2Proof.Machine

/-! ## The invariant, clause by clause -/

theorem inv_iff {s : State} : s.inv = true ↔
    (s.session = .ready ∨ s.step = .b6 → ∀ r ∈ calRegs, s.written r = true) ∧
    (s.lastTValid = true → s.written .lastT = true) ∧ (∀ r ∈ liveAt s.step, s.written r = true) ∧
    (∀ q, sessionAt s.step = some q → s.session = q) ∧ bytesAt s.step ≤ s.latch.length := by
  simp only [State.inv, calReady, Bool.or_eq_true, Bool.and_eq_true, bne_iff_ne, List.all_eq_true, Bool.not_eq_true',
    decide_eq_true_iff, and_assoc]
  refine and_congr ?_ (and_congr ?_ (and_congr Iff.rfl (and_congr ?_ Iff.rfl)))
  · tauto
  · cases s.lastTValid <;> simp
  · cases sessionAt s.step <;> simp

/-- At a label that asks for nothing itself, the two clauses on CAL and LAST_T are the invariant. -/
theorem inv_of_free {s : State} (hlive : liveAt s.step = []) (hsession : sessionAt s.step = none)
    (hbytes : bytesAt s.step = 0) (hcal : s.session = .ready ∨ s.step = .b6 → ∀ r ∈ calRegs, s.written r = true)
    (hlastT : s.lastTValid = true → s.written .lastT = true) : s.inv = true :=
  inv_iff.2 ⟨hcal, hlastT, by simp [hlive], by simp [hsession], by simp [hbytes]⟩

section
variable {s t : State}

theorem advance_written (r : RegName) : (advance s).written r = s.written r := by cases r <;> rfl

theorem enter_written (l : Label) (r : RegName) : (enter l s).written r = s.written r := by cases r <;> rfl

theorem written_of_cal (hcal : t.cal = s.cal) : ∀ r ∈ calRegs, s.written r = true → t.written r = true := by
  simp [calRegs, State.written, hcal]

/-- The clauses at the next label, for a statement that leaves SESSION, CAL, LAST_T and its flag. -/
theorem inv_of_keeps (h : s.inv = true) (hses : t.session = s.session) (hvalid : t.lastTValid = s.lastTValid)
    (hmono : ∀ r, s.written r = true → t.written r = true) (hb6 : t.step ≠ .b6)
    (hlive : ∀ r ∈ liveAt t.step, r ∉ liveAt s.step → t.written r = true)
    (hsession : ∀ q, sessionAt t.step = some q → sessionAt s.step = some q ∨ s.session = q)
    (hbytes : bytesAt t.step ≤ t.latch.length) : t.inv = true := by
  obtain ⟨hc, hl, hw, hq, -⟩ := inv_iff.1 h
  refine inv_iff.2 ⟨fun hr r hm => hmono r (hc (.inl ?_) r hm), fun hv => hmono _ (hl (hvalid ▸ hv)), fun r hm => ?_,
    fun q hm => ?_, hbytes⟩
  · exact hses ▸ hr.resolve_right hb6
  · by_cases hr : r ∈ liveAt s.step
    · exact hmono r (hw r hr)
    · exact hlive r hm hr
  · exact hses.trans ((hsession q hm).elim (hq q) id)

/-- A statement that ends the operation and leaves SESSION, CAL, LAST_T and its flag. -/
theorem inv_of_ends (h : s.inv = true) (ht : t.step = .idle) (hses : t.session = s.session)
    (hcal : t.cal = s.cal) (hlastT : t.lastT = s.lastT) (hvalid : t.lastTValid = s.lastTValid) : t.inv = true := by
  obtain ⟨hc, hl, -⟩ := inv_iff.1 h
  refine inv_of_free (by rw [ht]; rfl) (by rw [ht]; rfl) (by rw [ht]; rfl) (fun hr r hm => ?_) (fun hv => ?_)
  · rw [ht, hses] at hr
    exact written_of_cal hcal r hm (hc (.inl (hr.resolve_right (by decide))) r hm)
  · rw [State.written, hlastT]
    exact hl (hvalid ▸ hv)

/-- The liveness table of the invariant follows the listings: what the next label needs is written by now, or needed
here already. -/
theorem liveAt_next : ∀ l, l ∉ [.idle, .b1, .b5, .b6, .g12, .l1, .l2] → ∀ r ∈ liveAt (nextLabel l), r ∉ liveAt l →
    writtenAt l = some r := by
  intro l
  cases l <;> decide

theorem sessionAt_next : ∀ l, l ∉ [.idle, .b1, .g0, .l0, .b6, .g12, .l2] → ∀ q, sessionAt (nextLabel l) = some q →
    sessionAt l = some q := by
  intro l
  cases l <;> simp [nextLabel, sessionAt]

theorem bytesAt_next : ∀ l, bytesAt (nextLabel l) = ((readAt l).map Prod.snd).getD 0 := by
  intro l
  cases l <;> rfl

theorem Writes.inv {r : RegName} (hr : writtenAt s.step = some r) (hw : Writes r s t) (h : s.inv = true) :
    t.inv = true := by
  have hall : ∀ l, writtenAt l ≠ none → nextLabel l ≠ .b6 ∧ l ∉ [.idle, .b1, .b5, .b6, .g12, .l1, .l2] ∧
      l ∉ [.idle, .b1, .g0, .l0, .b6, .g12, .l2] ∧ readAt l = none := by
    intro l
    cases l <;> decide
  obtain ⟨hb6, hl, hl', hread⟩ := hall s.step (by simp [hr])
  refine inv_of_keeps h hw.frame.session hw.frame.lastTValid (fun q hq => by simp [hw.written, hq]) (hw.step ▸ hb6) ?_ ?_ ?_
  · intro q hq hnot
    rw [hw.step] at hq
    obtain rfl := Option.some.inj (hr.symm.trans (liveAt_next _ hl q hq hnot))
    simp [hw.written]
  · exact fun q hq => .inl (sessionAt_next _ hl' q (hw.step ▸ hq))
  · simp [hw.step, bytesAt_next, hread]

/-- A read at its label, answered in full (R76): the bytes the next label consumes have been received. -/
theorem inv_of_fullRead {reg : Byte} {n : Nat} (hr : readAt s.step = some (reg, n)) (h : s.inv = true) :
    (fullRead reg n s).inv = true := by
  have hall : ∀ l, readAt l ≠ none → nextLabel l ≠ .b6 ∧ l ∉ [.idle, .b1, .b5, .b6, .g12, .l1, .l2] ∧
      l ∉ [.idle, .b1, .g0, .l0, .b6, .g12, .l2] ∧ writtenAt l = none := by
    intro l
    cases l <;> decide
  obtain ⟨hb6, hl, hl', hwritten⟩ := hall s.step (by simp [hr])
  refine inv_of_keeps h rfl rfl (fun q hq => by revert hq; cases q <;> exact id) hb6 (fun q hq hnot => ?_)
    (fun q hq => .inl (sessionAt_next _ hl' q hq)) ?_
  · have := liveAt_next _ hl q hq hnot
    simp [hwritten] at this
  · have hlen : (fullRead reg n s).latch.length = n := by simp [fullRead]
    rw [hlen]
    exact (bytesAt_next s.step).le.trans (by simp [hr])

theorem inv_of_record {e : Event} (hs : s.step ∈ [.g2, .g3, .g7, .g8]) (h : s.inv = true) :
    (advance (record e s)).inv = true := by
  have hall : ∀ l ∈ [Label.g2, .g3, .g7, .g8], nextLabel l ≠ .b6 ∧ l ∉ [.idle, .b1, .b5, .b6, .g12, .l1, .l2] ∧
      l ∉ [.idle, .b1, .g0, .l0, .b6, .g12, .l2] ∧ writtenAt l = none ∧ readAt l = none := by decide
  obtain ⟨hb6, hl, hl', hwritten, hread⟩ := hall s.step hs
  refine inv_of_keeps h rfl rfl (fun q hq => by revert hq; cases q <;> exact id) hb6 (fun q hq hnot => ?_)
    (fun q hq => .inl (sessionAt_next _ hl' q hq)) ?_
  · have := liveAt_next _ hl q hq hnot
    simp [hwritten] at this
  · exact (bytesAt_next s.step).le.trans (by simp [hread])

/-- A test that passes: what it has tested is what the next label needs. -/
theorem inv_of_pass (hs : s.step ∈ [.b3, .g0, .g6, .g11, .l0, .l1])
    (hready : s.step = .g0 ∨ s.step = .l0 → s.session = .ready) (hvalid : s.step = .l1 → s.lastTValid = true)
    (h : s.inv = true) : (advance s).inv = true := by
  have hall : ∀ l ∈ [Label.b3, .g0, .g6, .g11, .l0, .l1], nextLabel l ≠ .b6 ∧ bytesAt (nextLabel l) = 0 ∧
      (∀ r ∈ liveAt (nextLabel l), r ∉ liveAt l → l = .l1 ∧ r = .lastT) ∧
      (sessionAt (nextLabel l) = sessionAt l ∨ (l = .g0 ∨ l = .l0) ∧ sessionAt (nextLabel l) = some .ready) := by decide
  obtain ⟨hb6, hbytes, hlive, hsession⟩ := hall s.step hs
  refine inv_of_keeps h rfl rfl (fun q hq => by rwa [advance_written]) hb6 (fun q hq hnot => ?_) (fun q hq => ?_)
    (hbytes.le.trans (Nat.zero_le _))
  · obtain ⟨h1, rfl⟩ := hlive q hq hnot
    obtain ⟨-, hlastT, -⟩ := inv_iff.1 h
    exact hlastT (hvalid h1)
  · obtain he | ⟨h0, he⟩ := hsession
    · exact .inl (he ▸ hq)
    · exact .inr ((hready h0).trans (Option.some.inj (he.symm.trans hq)))

theorem unpackCal_written : ∀ r ∈ calRegs, (unpackCal s).written r = true := by
  simp [calRegs, State.written, unpackCal]

/-- Every statement keeps the invariant. -/
theorem Effect.inv (he : Effect s t) (h : s.inv = true) : t.inv = true := by
  obtain ⟨hc, hlastT, hlive, hses, -⟩ := inv_iff.1 h
  cases he with
  | pass hs hready hvalid => exact inv_of_pass hs hready hvalid h
  | write hr hw => exact hw.inv hr h
  | record hs => exact inv_of_record hs h
  | fullRead hr => exact inv_of_fullRead hr h
  | shortRead | fail => exact inv_of_ends h rfl rfl rfl rfl rfl
  | answer => exact inv_of_ends h rfl rfl rfl rfl rfl
  | b1 hs =>
    have ht : (stmtB1 s).step = .b2 := by simp [stmtB1, hs, nextLabel]
    refine inv_iff.2 ⟨fun hr => ?_, hlastT, by simp [ht, liveAt], ?_, by simp [ht, bytesAt]⟩
    · rw [ht] at hr
      simp [stmtB1] at hr
    · rw [ht]
      rintro _ ⟨⟩
      rfl
  | b5 hs =>
    have ht : (unpackCal s).step = .b6 := by simp [unpackCal, hs, nextLabel]
    refine inv_iff.2 ⟨fun _ => unpackCal_written, hlastT, by simp [ht, liveAt], ?_, by simp [ht, bytesAt]⟩
    intro q hq
    rw [ht] at hq
    exact hses q (by rw [hs]; exact hq)
  | b6 hs =>
    exact inv_of_free rfl rfl rfl (fun _ r hm => written_of_cal (s := s) (by rfl) r hm (hc (.inr hs) r hm))
      (fun hv => Bool.noConfusion hv)
  | g12 hs =>
    have hr : s.session = .ready := hses .ready (by rw [hs]; rfl)
    exact inv_of_free rfl rfl rfl (fun _ r hm => written_of_cal (s := s) (by rfl) r hm (hc (.inl hr) r hm)) (fun _ => rfl)

theorem Path.inv {L : List Label} (hp : Path L s t) (h : s.inv = true) : t.inv = true := by
  induction hp with
  | refl => exact h
  | tail _ hl ih => exact hl.2.inv ih

/-- The first label of an operation needs nothing written. -/
theorem inv_of_start {opSel : BitVec 2} {l : Label} {L : List Label} (hm : (opSel, l, L) ∈ hostListings)
    (h : s.inv = true) : (enter l (accept s)).inv = true := by
  have hall : ∀ e ∈ hostListings, liveAt e.2.1 = [] ∧ sessionAt e.2.1 = none ∧ bytesAt e.2.1 = 0 ∧ e.2.1 ≠ .b6 := by
    decide
  obtain ⟨hlive, hses, hbytes, hb6⟩ := hall _ hm
  obtain ⟨hc, hlastT, -⟩ := inv_iff.1 h
  refine inv_of_free hlive hses hbytes (fun hr r hcal => ?_) (fun hv => ?_)
  · rw [enter_written, accept_written]
    exact hc (.inl (by simpa using hr.resolve_right hb6)) r hcal
  · rw [enter_written, accept_written]
    exact hlastT (by simpa using hv)

/-- Settles O11: a step is a path of statements, and each of them keeps the invariant. -/
theorem stepKeepsTheInvariant : Obligations.StepKeepsTheInvariant := by
  intro s t h hstep
  obtain rfl | ⟨-, he⟩ | ⟨-, hp⟩ | ⟨hm, -, -, hp⟩ := stepPath_of_step hstep
  · exact h
  · exact he.inv h
  · exact hp.inv h
  · exact hp.inv (inv_of_start hm h)

end

end Sys2Proof.Machine

/-! Proof of the statement that under the invariant no step stops for an unwritten register (R40, R341), and that the
machine goes on unless the wait capability hangs (U14) or the host presents the reserved selector (R105). -/

namespace Sys2Proof.Machine

/-- The outcome is a next state, or the stop of a wait that hangs for one of the four delays. -/
def GoesOn (w : WaitCap) (o : Out) : Prop :=
  (∃ t, o = .next t) ∨ (o = .fault .waitHangs ∧ ∃ n ∈ [5, 8, 14, 26], callWait w n = .hangs)

section
variable {s : State} {w : WaitCap}

theorem GoesOn.next (t : State) : GoesOn w (.next t) := .inl ⟨t, rfl⟩

/-- A read of a written register goes on as its continuation does. -/
theorem GoesOn.need {α : Type} {r : RegName} {o : Option α} {k : α → Out} (h : s.written r = true)
    (hk : ∀ v, GoesOn w (k v)) (ho : o.isSome = s.written r := by rfl) : GoesOn w (need r o k) := by
  obtain ⟨v, -, he⟩ := need_isSome (r := r) k (ho.trans h)
  exact he ▸ hk v

theorem GoesOn.wait {n : Nat} (hn : n ∈ [5, 8, 14, 26]) : GoesOn s.waitCap (wait n s) := by
  cases hw : callWait s.waitCap n with
  | returns => exact .inl ⟨_, wait_eq_next.2 ⟨hw, rfl⟩⟩
  | hangs => exact .inr ⟨wait_eq_fault.2 ⟨hw, rfl⟩, n, hn, hw⟩

/-- The operands of a statement are live at its label, or entries of CAL in READY. -/
theorem operand_written (h : s.inv = true) {l : Label} (hl : s.step = l) (r : RegName)
    (hr : r ∈ liveAt l ∨ (sessionAt l = some .ready ∧ r ∈ calRegs)) : s.written r = true := by
  obtain ⟨hc, -, hlive, hses, -⟩ := inv_iff.1 h
  rw [hl] at hlive hses
  exact hr.elim (hlive r) fun ⟨hq, hm⟩ => hc (.inl (hses _ hq)) r hm

theorem pDelay_mem (oss : BitVec 2) : pDelay oss ∈ [5, 8, 14, 26] := by
  revert oss
  decide

/-- A statement finds its operands written. -/
theorem statement_goesOn (hs : s.step ∉ [.idle, .g6, .g11]) (h : s.inv = true) : GoesOn s.waitCap (step s) := by
  obtain ⟨l, hl⟩ : ∃ l, s.step = l := ⟨_, rfl⟩
  have hop := operand_written h hl
  cases l with
  | idle | g6 | g11 => simp [hl] at hs
  | b1 => exact step_b1 hl ▸ .next _
  | b2 => exact step_b2 hl ▸ .next _
  | b4 => exact step_b4 hl ▸ .next _
  | b6 => exact step_b6 hl ▸ .next _
  | g0 => exact step_g0 hl ▸ .next _
  | g2 => exact step_g2 hl ▸ .next _
  | g4 => exact step_g4 hl ▸ .next _
  | g9 => exact step_g9 hl ▸ .next _
  | l0 => exact step_l0 hl ▸ .next _
  | l1 => exact step_l1 hl ▸ .next _
  | b3 | b5 | g1 | g5 =>
    rw [step_sel hl rfl]
    exact .next _
  | g3 =>
    rw [step_sel hl rfl]
    exact .wait (by decide)
  | g7 =>
    rw [step_g7 hl]
    exact .need (hop .oss (by decide)) fun oss => .next _
  | g8 =>
    rw [step_sel hl rfl]
    exact .need (hop .oss (by decide)) fun oss => .wait (pDelay_mem oss)
  | g12 =>
    rw [step_g12 hl]
    exact .need (hop .t (by decide)) fun t => .need (hop .pres (by decide)) fun pres => .next _
  | l2 =>
    rw [step_l2 hl]
    exact .need (hop .lastT (by decide)) fun t => .next _
  | t2 =>
    rw [step_sel hl rfl]
    refine .need (hop .x1 (by decide)) fun x1 => .need (hop .md (by decide)) fun md => ?_
    split
    · exact .next _
    · exact .need (hop .mc (by decide)) fun mc => .next _
  | p11 =>
    rw [step_sel hl rfl]
    refine .need (hop .b4 (by decide)) fun b4 => ?_
    split
    · exact .next _
    · exact .need (hop .b7 (by decide)) fun b7 => .next _
  | _ =>
    rw [step_sel hl rfl]
    repeat refine GoesOn.need (hop _ (by decide)) fun _ => ?_
    exact .next _

theorem step_keeps_waitCap {s t : State} (h : step s = .next t) : t.waitCap = s.waitCap :=
  step_keeps (f := State.waitCap) (fun _ _ he => he.waitCap) (by simp) h

/-- A listing goes on if each of its statements does, for the invariant holds between them. -/
theorem Listing.goesOn {out : Label} {ls : List Label} {fs : List (State → Out)} (hl : Listing out ls fs)
    (hstep : ∀ u : State, u.step ∈ ls → u.inv = true → GoesOn u.waitCap (step u)) {s : State}
    (hs : s.step = ls.headD out) (h : s.inv = true) : GoesOn s.waitCap (runSeq fs s) := by
  induction hl generalizing s with
  | nil => exact .next s
  | @cons l ls f fs hf hgo _ ih =>
    have hgoes := hstep s (by simp [show s.step = l from hs]) h
    obtain ⟨t, ht⟩ | ⟨hfault, hn⟩ := hgoes
    · have hft : f s = .next t := (hf s hs).symm.trans ht
      by_cases hi : t.step = .idle
      · exact runSeq_cons_stop hft hi ▸ .next t
      · rw [runSeq_cons_go hft hi, ← step_keeps_waitCap ht]
        exact ih (fun u hu => hstep u (by simp [hu])) ((hgo s t hs ht).resolve_left hi) (stepKeepsTheInvariant s t h ht)
    · exact .inr ⟨runSeq_cons_fault ((hf s hs).symm.trans hfault), hn⟩

theorem inside_goesOn (hs : s.step ≠ .idle) (h : s.inv = true) : GoesOn s.waitCap (step s) := by
  have hstatement : ∀ ls : List Label, (∀ l ∈ ls, l ∉ [.idle, .g6, .g11]) →
      ∀ u : State, u.step ∈ ls → u.inv = true → GoesOn u.waitCap (step u) :=
    fun ls hls u hu => statement_goesOn (hls _ hu)
  by_cases h6 : s.step = .g6
  · have henter : enter .t1 s = advance s := by rw [enter, advance, h6]; rfl
    have hinv : (enter .t1 s).inv = true := henter ▸ inv_of_pass (by simp [h6]) (by simp [h6]) (by simp [h6]) h
    rw [step_sel h6 rfl]
    exact listing_compT.goesOn (hstatement _ (by decide)) rfl hinv
  by_cases h11 : s.step = .g11
  · have henter : enter .p1 s = advance s := by rw [enter, advance, h11]; rfl
    have hinv : (enter .p1 s).inv = true := henter ▸ inv_of_pass (by simp [h11]) (by simp [h11]) (by simp [h11]) h
    rw [step_sel h11 rfl]
    exact listing_compP.goesOn (hstatement _ (by decide)) rfl hinv
  exact statement_goesOn (by simp [hs, h6, h11]) h

/-- A host operation, whole or one statement a step, goes on from where it is presented. -/
theorem operation_goesOn {i : Instr} {l : Label} {ls : List Label} {fs : List (State → Out)} (hl : Listing .idle ls fs)
    (hi : firstLabel i = some l) (hls : ∀ l ∈ ls, l ≠ .idle) (hhead : l = ls.headD .idle)
    (hexec : exec i s = runSeq fs (enter l s)) (h : (enter l s).inv = true) : GoesOn s.waitCap (runOperation i s) := by
  cases hg : s.grain with
  | statement => exact runOperation_starts hg hi ▸ .next _
  | operation =>
    rw [runOperation_meaning (.inl hg), hexec]
    exact hl.goesOn (fun u hu => inside_goesOn (hls _ hu)) hhead h

/-- At IDLE: CORE waits, or the presented operation goes on, or it is the reserved selector. -/
theorem idle_goesOn (hs : s.step = .idle) (h : s.inv = true) :
    s.presents 0b11 ∨ GoesOn s.waitCap (step s) := by
  cases hq : s.hostQ with
  | nil => exact .inr (idleCoreWaits s hs hq ▸ .next s)
  | cons r rest =>
    obtain ⟨opSel, modeIn⟩ := r
    have hpres := present_accept hs hq
    have hmode : (accept s).modeIn = modeIn := by rw [accept_idle hs hq]
    have hstep : ∀ i, decodeHost opSel modeIn = i → step s = runOperation i (accept s) :=
      fun i hi => step_of_code (fetch_idle hs hq) (congrArg Except.ok hi)
    rw [← accept_waitCap]
    obtain rfl | rfl | rfl | rfl := selector_cases opSel
    · rw [hstep .beginOp rfl]
      refine .inr (operation_goesOn listing_begin rfl (by decide) rfl ?_ (inv_of_start (.head _) h))
      rw [← hpres, ← hmode]
      exact execBegin_eq_runSeq _
    · rw [hstep (.getPressure modeIn) rfl]
      refine .inr (operation_goesOn listing_getPressure rfl (by decide) rfl ?_ (inv_of_start (.tail _ (.head _)) h))
      rw [← hpres]
      rfl
    · rw [hstep .getLastTemperature rfl]
      refine .inr (operation_goesOn listing_getLastTemperature rfl (by decide) rfl ?_
        (inv_of_start (.tail _ (.tail _ (.head _))) h))
      rw [← hpres, ← hmode]
      rfl
    · exact .inl ⟨hs, modeIn, rest, hq⟩

/-- Settles O12: no outcome but a next state, a wait that hangs and the refusal of the reserved selector is possible. -/
theorem noStepReadsAnUnwrittenRegister : Obligations.NoStepReadsAnUnwrittenRegister := by
  intro s h
  have hcases : s.presents 0b11 ∨ GoesOn s.waitCap (step s) := by
    by_cases hs : s.step = .idle
    · exact idle_goesOn hs h
    · exact .inr (inside_goesOn hs h)
  obtain hp | ⟨t, ht⟩ | ⟨hf, n, hn, hw⟩ := hcases
  · have hr := reservedSelectorIsRefused.2 s hp
    exact ⟨fun r => by simp [hr], fun _ hnot => absurd hp hnot⟩
  · exact ⟨fun r => by simp [ht], fun _ _ => ⟨t, ht⟩⟩
  · exact ⟨fun r => by simp [hf], fun hret => by simp [hret n hn] at hw⟩

end

end Sys2Proof.Machine

/-! Proofs of the statements of 41_temperature.md: the steps T1 to T4 (R161 to R164), the zero divisor (R303) and the
whole pass (R160). What a step writes, as a pattern, comes first; its integer reading is that of the primitives in it. -/

namespace Sys2Proof.Machine

/-! ## What a step writes where its operands are written -/

section
variable {s : State} {x1 x2 b5 : W32} {ut ac5 ac6 mc md : Half}

theorem exec_t1 (hut : s.ut = some ut) (h5 : s.cal.ac5 = some ac5) (h6 : s.cal.ac6 = some ac6) :
    exec .t1 s = .next { s with x1 := some (asr (mul32 (sub32 (zext16 ut) (zext16 ac6)) (zext16 ac5)) 15),
                                step := nextLabel s.step } := by
  simp [exec, execT1, advance, hut, h5, h6]

theorem exec_t2 (hx1 : s.x1 = some x1) (hmc : s.cal.mc = some mc) (hmd : s.cal.md = some md)
    (hd : isZero (add32 x1 (sext16 md)) = false) :
    exec .t2 s = .next { s with x2 := some (sdiv (mul32 (sext16 mc) 2048) (add32 x1 (sext16 md))),
                                step := nextLabel s.step } := by
  simp [exec, execT2, advance, hx1, hmc, hmd, hd]

theorem exec_t2_zero (hx1 : s.x1 = some x1) (hmd : s.cal.md = some md) (hd : isZero (add32 x1 (sext16 md)) = true) :
    exec .t2 s = .next { s with status := some .div0Temp, value := none, info := some (.div0Temp x1 (sext16 md)),
                                step := .idle } := by
  simp [exec, execT2, raise, Err.status, hx1, hmd, hd]

theorem exec_t3 (hx1 : s.x1 = some x1) (hx2 : s.x2 = some x2) :
    exec .t3 s = .next { s with b5 := some (add32 x1 x2), step := nextLabel s.step } := by
  simp [exec, execT3, advance, hx1, hx2]

theorem exec_t4 (hb5 : s.b5 = some b5) :
    exec .t4 s = .next { s with t := some (asr (add32 b5 8) 4), step := nextLabel s.step } := by
  simp [exec, execT4, advance, hb5]

end

/-! ## The integers of the pass, and their bounds -/

theorem toInt_t1 (ut ac5 ac6 : Half) :
    (asr (mul32 (sub32 (zext16 ut) (zext16 ac6)) (zext16 ac5)) 15).toInt = refX1 ut.toNat ac5.toNat ac6.toNat := by
  simp only [toInt_asr, toInt_mul32, toInt_sub32, toInt_zext16]
  rfl

/-- Sixteen bits and a sign are left of a pattern shifted by 15. -/
theorem asr15_range (v : W32) : -65536 ≤ (asr v 15).toInt ∧ (asr v 15).toInt ≤ 65535 := by
  have := toInt_range v
  rw [toInt_asr]
  omega

/-- The divisor test is on the divisor of the rules (R162). -/
theorem isZero_divisor (x1 : W32) (md : Half) :
    isZero (add32 x1 (sext16 md)) = true ↔ refD x1.toInt md.toInt = 0 := by
  rw [isZero_iff, toInt_add32, toInt_sext16, refD]

theorem toInt_t2 (x1 : W32) (mc md : Half) :
    (sdiv (mul32 (sext16 mc) 2048) (add32 x1 (sext16 md))).toInt = refX2 mc.toInt (refD x1.toInt md.toInt) := by
  simp only [toInt_sdiv, toInt_mul32, toInt_add32, toInt_sext16]
  rfl

theorem half_toInt_range (h : Half) : -32768 ≤ h.toInt ∧ h.toInt ≤ 32767 := by
  have hlo := BitVec.le_toInt h
  have hhi := BitVec.toInt_lt (x := h)
  omega

/-- MC 2048 has 27 bits, and a quotient is no larger than its dividend (R163). -/
theorem refX2_range (mc : Half) (d : Int) : -67108864 ≤ refX2 mc.toInt d ∧ refX2 mc.toInt d ≤ 67108864 := by
  have hmc := half_toInt_range mc
  have hprod : S32 (mc.toInt * 2048) = mc.toInt * 2048 := S32_of_range (by omega) (by omega)
  have hle := Int.natAbs_tdiv_le_natAbs (mc.toInt * 2048) d
  have hquot : S32 ((mc.toInt * 2048).tdiv d) = (mc.toInt * 2048).tdiv d := S32_of_range (by omega) (by omega)
  rw [refX2, hprod, truncQuot_eq_tdiv, hquot]
  omega

theorem toInt_t4 (b5 : W32) : (asr (add32 b5 8) 4).toInt = refT b5.toInt := by
  simp only [toInt_asr, toInt_add32]
  rfl

/-! ## The statements -/

/-- Settles O19: the integer is that of `toInt_t1`, and the shift by 15 gives the range. -/
theorem t1ScalesTheSample : Obligations.T1ScalesTheSample :=
  fun _ ut ac5 ac6 hut h5 h6 => ⟨_, exec_t1 hut h5 h6, toInt_t1 ut ac5 ac6, asr15_range _⟩

/-- Settles O20: the integer is that of `toInt_t2`, and the dividend bounds the quotient. -/
theorem t2DividesByTheSum : Obligations.T2DividesByTheSum := by
  intro s x1 mc md hx1 hmc hmd hd
  have hz : isZero (add32 x1 (sext16 md)) = false := Bool.eq_false_iff.2 fun h => hd ((isZero_divisor x1 md).1 h)
  exact ⟨_, exec_t2 hx1 hmc hmd hz, toInt_t2 x1 mc md, toInt_t2 x1 mc md ▸ refX2_range mc _⟩

/-- Settles O21: the test comes before MC is read. -/
theorem t2ReportsAZeroDivisor : Obligations.T2ReportsAZeroDivisor :=
  fun _ x1 md hx1 hmd hd => ⟨sext16 md, toInt_sext16 md, exec_t2_zero hx1 hmd ((isZero_divisor x1 md).2 hd)⟩

/-- Settles O22: a sum, and a shift of a sum. -/
theorem t3AndT4GiveTheTemperature : Obligations.T3AndT4GiveTheTemperature :=
  ⟨fun _ x1 x2 hx1 hx2 => ⟨_, exec_t3 hx1 hx2, toInt_add32 x1 x2⟩, fun _ b5 hb5 => ⟨_, exec_t4 hb5, toInt_t4 b5⟩⟩

/-! ## The whole pass -/

/-- A statement that goes on, in front of the rest of its listing. -/
theorem runSeq_go {f : State → Out} {fs : List (State → Out)} {s t : State} {o : Out} (h : f s = .next t)
    (hi : t.step ≠ .idle) (hrest : runSeq fs t = o) : runSeq (f :: fs) s = o :=
  (runSeq_cons_go h hi).trans hrest

section
variable {s : State} {ut ac5 ac6 mc md : Half}

/-- COMP_T with a non-zero divisor, statement by statement. -/
theorem exec_compT {x1 : W32} (hut : s.ut = some ut) (h5 : s.cal.ac5 = some ac5) (h6 : s.cal.ac6 = some ac6)
    (hmc : s.cal.mc = some mc) (hmd : s.cal.md = some md)
    (hx1 : asr (mul32 (sub32 (zext16 ut) (zext16 ac6)) (zext16 ac5)) 15 = x1)
    (hd : isZero (add32 x1 (sext16 md)) = false) {x2 b5 : W32}
    (hx2 : sdiv (mul32 (sext16 mc) 2048) (add32 x1 (sext16 md)) = x2) (hb5 : add32 x1 x2 = b5) :
    exec .compT s = .next { s with x1 := some x1, x2 := some x2, b5 := some b5, t := some (asr (add32 b5 8) 4),
                                   step := .g7 } := by
  subst hx1 hx2 hb5
  refine runSeq_go (exec_t1 (s := enter .t1 s) hut h5 h6) Label.noConfusion ?_
  refine runSeq_go (exec_t2 rfl hmc hmd hd) Label.noConfusion ?_
  refine runSeq_go (exec_t3 rfl rfl) Label.noConfusion ?_
  exact runSeq_go (exec_t4 rfl) Label.noConfusion rfl

/-- COMP_T with a zero divisor stops at T2. -/
theorem exec_compT_zero {x1 : W32} (hut : s.ut = some ut) (h5 : s.cal.ac5 = some ac5) (h6 : s.cal.ac6 = some ac6)
    (hmd : s.cal.md = some md) (hx1 : asr (mul32 (sub32 (zext16 ut) (zext16 ac6)) (zext16 ac5)) 15 = x1)
    (hd : isZero (add32 x1 (sext16 md)) = true) :
    exec .compT s = .next { s with x1 := some x1, status := some .div0Temp, value := none,
                                   info := some (.div0Temp x1 (sext16 md)), step := .idle } := by
  subst hx1
  refine runSeq_go (exec_t1 (s := enter .t1 s) hut h5 h6) Label.noConfusion ?_
  exact runSeq_cons_stop (exec_t2_zero rfl hmd hd) rfl

end

/-- Settles O23: the steps in order; the bounds of X1 and X2 leave no wrap to B5 and T. -/
theorem temperaturePassMatchesTheFormulas : Obligations.TemperaturePassMatchesTheFormulas := by
  intro s ut ac5 ac6 mc md hut h5 h6 hmc hmd
  refine ⟨_, toInt_t1 ut ac5 ac6, fun hd => ?_, fun hd => ⟨sext16 md, toInt_sext16 md, ?_⟩⟩
  · have hz := Bool.eq_false_iff.2 fun h => hd ((isZero_divisor _ md).1 h)
    refine ⟨_, _, _, exec_compT hut h5 h6 hmc hmd rfl hz rfl rfl, toInt_t2 _ mc md, ?_⟩
    have hx1 := asr15_range (mul32 (sub32 (zext16 ut) (zext16 ac6)) (zext16 ac5))
    have hx2 := refX2_range mc (refD (asr (mul32 (sub32 (zext16 ut) (zext16 ac6)) (zext16 ac5)) 15).toInt md.toInt)
    rw [← toInt_t2] at hx2
    generalize asr (mul32 (sub32 (zext16 ut) (zext16 ac6)) (zext16 ac5)) 15 = x1 at *
    generalize sdiv (mul32 (sext16 mc) 2048) (add32 x1 (sext16 md)) = x2 at *
    have hb5 : (add32 x1 x2).toInt = x1.toInt + x2.toInt := by
      rw [toInt_add32, S32_of_range] <;> omega
    have ht : (asr (add32 (add32 x1 x2) 8) 4).toInt = ((add32 x1 x2).toInt + 8) / 16 := by
      rw [toInt_t4, refT, S32_of_range] <;> omega
    rw [ht, hb5]
    omega
  · exact exec_compT_zero hut h5 h6 hmd rfl ((isZero_divisor _ md).2 hd)

end Sys2Proof.Machine

/-! Proofs of the statements of 42_pressure.md on the steps P1, P2, P4, P5, P8 to P11 and P15 (R181, R182, R184, R185,
R188 to R191, R195), on the zero B4 (R304) and on the whole pass (R180). -/

namespace Sys2Proof.Machine

/-! ## What a step writes where its operands are written -/

section
variable {s : State} {b3 b4 b5 b6 b7 p x1 x2 x3 : W32} {c : Half} {up : BitVec 19} {oss : BitVec 2}

theorem exec_p1 (hb5 : s.b5 = some b5) :
    exec .p1 s = .next { s with b6 := some (sub32 b5 4000), step := nextLabel s.step } := by
  simp [exec, execP1, advance, hb5]

theorem exec_p2 (hb6 : s.b6 = some b6) (hc : s.cal.b2 = some c) :
    exec .p2 s = .next { s with x1 := some (asr (mul32 (sext16 c) (asr (mul32 b6 b6) 12)) 11),
                                step := nextLabel s.step } := by
  simp [exec, execP2, advance, hb6, hc]

theorem exec_p4 (hx1 : s.x1 = some x1) (hx2 : s.x2 = some x2) :
    exec .p4 s = .next { s with x3 := some (add32 x1 x2), step := nextLabel s.step } := by
  simp [exec, execP4, advance, hx1, hx2]

theorem exec_p5 (hc : s.cal.ac1 = some c) (hx3 : s.x3 = some x3) (ho : s.oss = some oss) :
    exec .p5 s = .next { s with b3 := some (sdiv (add32 (lsl (add32 (mul32 (sext16 c) 4) x3) oss.toNat) 2) 4),
                                step := nextLabel s.step } := by
  simp [exec, execP5, advance, hc, hx3, ho]

theorem exec_p8 (hx1 : s.x1 = some x1) (hx2 : s.x2 = some x2) :
    exec .p8 s = .next { s with x3 := some (asr (add32 (add32 x1 x2) 2) 2), step := nextLabel s.step } := by
  simp [exec, execP8, advance, hx1, hx2]

theorem exec_p9 (hc : s.cal.ac4 = some c) (hx3 : s.x3 = some x3) :
    exec .p9 s = .next { s with b4 := some (lsr (mul32 (zext16 c) (toU32 (add32 x3 32768))) 15),
                                step := nextLabel s.step } := by
  simp [exec, execP9, advance, hc, hx3]

theorem exec_p10 (hu : s.up = some up) (hb3 : s.b3 = some b3) (ho : s.oss = some oss) :
    exec .p10 s = .next { s with b7 := some (mul32 (sub32 (zextUp up) (toU32 b3)) (lsr 50000 oss.toNat)),
                                 step := nextLabel s.step } := by
  simp [exec, execP10, advance, hu, hb3, ho]

theorem exec_p11 (hb4 : s.b4 = some b4) (hz : isZero b4 = false) (hb7 : s.b7 = some b7) :
    exec .p11 s = .next { s with p := some (toS32 (p11Quotient b7 b4)), step := nextLabel s.step } := by
  simp [exec, execP11, advance, hb4, hb7, hz]

theorem exec_p11_zero (hb4 : s.b4 = some b4) (hz : isZero b4 = true) :
    exec .p11 s = .next { s with status := some .div0Pres, value := none, info := some (.div0Pres b4),
                                 step := .idle } := by
  simp [exec, execP11, raise, Err.status, hb4, hz]

theorem exec_p15 (hp : s.p = some p) (hx1 : s.x1 = some x1) (hx2 : s.x2 = some x2) :
    exec .p15 s = .next { s with pres := some (add32 p (asr (add32 (add32 x1 x2) 3791) 4)),
                                 step := nextLabel s.step } := by
  simp [exec, execP15, advance, hp, hx1, hx2]

end

/-! ## The integers of the steps -/

theorem U32_S32 (v : Int) : U32 (S32 v) = U32 v := by
  rw [U32, U32, S32]
  omega

theorem isZero_iff_toNat (v : W32) : isZero v = true ↔ v.toNat = 0 := by
  rw [isZero, beq_iff_eq, ← BitVec.toNat_inj]
  rfl

@[simp] theorem toNat_zext16 (h : Half) : (zext16 h).toNat = h.toNat := by
  simp [zext16]
  omega

@[simp] theorem toNat_zextUp (u : BitVec 19) : (zextUp u).toNat = u.toNat := by
  simp [zextUp]
  omega

theorem toInt_p1 (b5 : W32) : (sub32 b5 4000).toInt = refB6 b5.toInt := toInt_sub32 b5 4000

theorem toInt_p2 (c : Half) (b6 : W32) :
    (asr (mul32 (sext16 c) (asr (mul32 b6 b6) 12)) 11).toInt = S32 (c.toInt * refSquare b6.toInt) / 2048 := by
  rw [toInt_asr, toInt_mul32, toInt_sext16, toInt_square]
  rfl

theorem toInt_p3 (c : Half) (b6 : W32) : (asr (mul32 (sext16 c) b6) 11).toInt = S32 (c.toInt * b6.toInt) / 2048 := by
  rw [toInt_asr, toInt_mul32, toInt_sext16]
  rfl

theorem toInt_p5 (c : Half) (x3 : W32) (oss : BitVec 2) :
    (sdiv (add32 (lsl (add32 (mul32 (sext16 c) 4) x3) oss.toNat) 2) 4).toInt = refB3 c.toInt x3.toInt oss.toNat := by
  simp only [toInt_sdiv, toInt_add32, toInt_lsl, toInt_mul32, toInt_sext16]
  rfl

theorem toInt_p6 (c : Half) (b6 : W32) : (asr (mul32 (sext16 c) b6) 13).toInt = S32 (c.toInt * b6.toInt) / 8192 := by
  rw [toInt_asr, toInt_mul32, toInt_sext16]
  rfl

theorem toInt_p7 (c : Half) (b6 : W32) :
    (asr (mul32 (sext16 c) (asr (mul32 b6 b6) 12)) 16).toInt = S32 (c.toInt * refSquare b6.toInt) / 65536 := by
  rw [toInt_asr, toInt_mul32, toInt_sext16, toInt_square]
  rfl

theorem toInt_p8 (x1 x2 : W32) :
    (asr (add32 (add32 x1 x2) 2) 2).toInt = S32 (S32 (x1.toInt + x2.toInt) + 2) / 4 := by
  simp only [toInt_asr, toInt_add32]
  rfl

/-- B3 from its operands (R182 to R185). -/
theorem toInt_p2_to_p5 (ac1 ac2 b2 : Half) (b6 : W32) (oss : BitVec 2) :
    (sdiv (add32 (lsl (add32 (mul32 (sext16 ac1) 4) (add32 (asr (mul32 (sext16 b2) (asr (mul32 b6 b6) 12)) 11)
      (asr (mul32 (sext16 ac2) b6) 11))) oss.toNat) 2) 4).toInt =
      refB3 ac1.toInt (refX3Low ac2.toInt b2.toInt b6.toInt) oss.toNat := by
  rw [toInt_p5, toInt_add32, toInt_p2, toInt_p3, refX3Low]

/-- X3 of P8 from its operands (R186 to R188). -/
theorem toInt_p6_to_p8 (ac3 b1 : Half) (b6 : W32) :
    (asr (add32 (add32 (asr (mul32 (sext16 ac3) b6) 13) (asr (mul32 (sext16 b1) (asr (mul32 b6 b6) 12)) 16)) 2) 2).toInt =
      refX3High ac3.toInt b1.toInt b6.toInt := by
  rw [toInt_p8, toInt_p6, toInt_p7, refX3High]

theorem toNat_p9 (c : Half) (x3 : W32) :
    ((lsr (mul32 (zext16 c) (toU32 (add32 x3 32768))) 15).toNat : Int) = refB4 c.toNat x3.toInt := by
  rw [toNat_lsr, Int.natCast_ediv, toNat_mul32, toNat_zext16, toU32, toNat_eq_U32_toInt (add32 x3 32768), toInt_add32]
  rfl

theorem toNat_p10 (up : BitVec 19) (b3 : W32) (oss : BitVec 2) :
    ((mul32 (sub32 (zextUp up) (toU32 b3)) (lsr 50000 oss.toNat)).toNat : Int) =
      refB7 up.toNat b3.toInt oss.toNat := by
  rw [toNat_mul32, toNat_sub32, toNat_zextUp, toU32, toNat_eq_U32_toInt b3, toNat_lsr, Int.natCast_ediv]
  simp [refB7]

/-- The two branches of P11 (R191). -/
theorem toInt_p11 (b7 b4 : W32) : (toS32 (p11Quotient b7 b4)).toInt = refP b7.toNat b4.toNat := by
  have hult : ult b7 0x80000000 = decide ((b7.toNat : Int) < 2147483648) := by simp [ult]
  rw [toS32, toInt_eq_S32_toNat, refP, p11Quotient, hult]
  by_cases h : (b7.toNat : Int) < 2147483648
  · rw [if_pos (by simpa using h), if_pos h, toNat_udiv, Int.natCast_ediv, toNat_mul32]
    rfl
  · rw [if_neg (by simpa using h), if_neg h, toNat_mul32, toNat_udiv, Int.natCast_ediv]
    rfl

theorem toInt_p12_p13 (p : W32) : (asr (mul32 (mul32 (asr p 8) (asr p 8)) 3038) 16).toInt = refX1Out p.toInt := by
  simp only [toInt_asr, toInt_mul32]
  rfl

theorem toInt_p14 (p : W32) : (asr (mul32 (-7357) p) 16).toInt = refX2Out p.toInt := by
  rw [toInt_asr, toInt_mul32]
  rfl

theorem toInt_p15 (p x1 x2 : W32) :
    (add32 p (asr (add32 (add32 x1 x2) 3791) 4)).toInt = refPres p.toInt x1.toInt x2.toInt := by
  simp only [toInt_asr, toInt_add32]
  rfl

/-! ## The statements -/

/-- Settles O24: a difference, and a shift of the product with the common term. -/
theorem p1AndP2GiveTheFirstTerms : Obligations.P1AndP2GiveTheFirstTerms :=
  ⟨fun _ b5 hb5 => ⟨_, exec_p1 hb5, toInt_p1 b5⟩, fun _ b6 b2 hb6 hc => ⟨_, exec_p2 hb6 hc, toInt_p2 b2 b6⟩⟩

/-- Settles O26: a sum, and a shift of a sum. -/
theorem p4AndP8SumTheTerms : Obligations.P4AndP8SumTheTerms :=
  ⟨fun _ x1 x2 hx1 hx2 => ⟨_, exec_p4 hx1 hx2, toInt_add32 x1 x2⟩,
    fun _ x1 x2 hx1 hx2 => ⟨_, exec_p8 hx1 hx2, toInt_p8 x1 x2⟩⟩

/-- Settles O27: the integer is that of `toInt_p5`. -/
theorem p5GivesB3 : Obligations.P5GivesB3 :=
  fun _ ac1 x3 oss hc hx3 ho => ⟨_, exec_p5 hc hx3 ho, toInt_p5 ac1 x3 oss⟩

/-- Settles O28: the integer is that of `toNat_p9`; a shift by 15 leaves 17 bits. -/
theorem p9GivesB4 : Obligations.P9GivesB4 := by
  refine fun s ac4 x3 hc hx3 => ⟨_, exec_p9 hc hx3, toNat_p9 ac4 x3, ?_⟩
  rw [toNat_lsr]
  omega

/-- Settles O29: the integer is that of `toNat_p10`. -/
theorem p10GivesB7 : Obligations.P10GivesB7 :=
  fun _ up b3 oss hu hb3 ho => ⟨_, exec_p10 hu hb3 ho, toNat_p10 up b3 oss⟩

/-- Settles O30: the test passes, and the quotient is that of `toInt_p11`. -/
theorem p11DividesOnBothBranches : Obligations.P11DividesOnBothBranches :=
  fun _ b7 b4 hb7 hb4 hne =>
    ⟨_, exec_p11 hb4 (Bool.eq_false_iff.2 fun h => hne ((isZero_iff_toNat b4).1 h)) hb7, toInt_p11 b7 b4⟩

/-- P9 gives a zero B4 exactly when its product is below 2^15. -/
theorem p9_zero_iff (c : Half) (x3 : W32) :
    some (lsr (mul32 (zext16 c) (toU32 (add32 x3 32768))) 15) = some 0 ↔
      U32 (c.toNat * U32 (x3.toInt + 32768)) < 32768 := by
  have hv := toNat_p9 c x3
  rw [refB4, U32_S32] at hv
  rw [Option.some_inj, ← BitVec.toNat_inj, show (0 : W32).toNat = 0 from rfl]
  have hpos : 0 ≤ U32 (c.toNat * U32 (x3.toInt + 32768)) := Int.emod_nonneg _ (by decide)
  omega

/-- Settles O31: the test comes before either division; and a factor of P9's product that is zero makes it zero. -/
theorem p11ReportsAZeroDivisor : Obligations.P11ReportsAZeroDivisor := by
  refine ⟨fun s b4 hb4 h0 => exec_p11_zero hb4 ((isZero_iff_toNat b4).2 h0), fun s t ac4 x3 hc hx3 h => ?_⟩
  rw [exec_p9 hc hx3] at h
  cases h
  refine ⟨p9_zero_iff ac4 x3, fun h0 => (p9_zero_iff ac4 x3).2 ?_, fun h0 => (p9_zero_iff ac4 x3).2 ?_⟩
  · simp [h0, U32]
  · rw [h0, mul_zero]
    decide

/-- Settles O33: the integer is that of `toInt_p15`. -/
theorem p15GivesThePressure : Obligations.P15GivesThePressure :=
  fun _ p x1 x2 hp hx1 hx2 => ⟨_, exec_p15 hp hx1 hx2, toInt_p15 p x1 x2⟩

/-! ## The whole pass -/

section
variable {s : State} {ac1 ac2 ac3 ac4 b1 b2 : Half} {b5 : W32} {up : BitVec 19} {oss : BitVec 2}

/-- P1 to P10, statement by statement: what they leave in the working registers, as integers, and where P11 begins. -/
theorem compP_to_p11 (h1 : s.cal.ac1 = some ac1) (h2 : s.cal.ac2 = some ac2) (h3 : s.cal.ac3 = some ac3)
    (h4 : s.cal.ac4 = some ac4) (hb1 : s.cal.b1 = some b1) (hb2 : s.cal.b2 = some b2) (hb5 : s.b5 = some b5)
    (hu : s.up = some up) (ho : s.oss = some oss) :
    ∃ b6 b3 x3 b4 b7 x1 x2 : W32, b6.toInt = refB6 b5.toInt ∧
      b3.toInt = refB3 ac1.toInt (refX3Low ac2.toInt b2.toInt b6.toInt) oss.toNat ∧
      x3.toInt = refX3High ac3.toInt b1.toInt b6.toInt ∧ (b4.toNat : Int) = refB4 ac4.toNat x3.toInt ∧
      (b7.toNat : Int) = refB7 up.toNat b3.toInt oss.toNat ∧ x1.toInt = S32 (ac3.toInt * b6.toInt) / 8192 ∧
      x2.toInt = S32 (b1.toInt * refSquare b6.toInt) / 65536 ∧
      exec .compP s = runSeq [execP11, execP12, execP13, execP14, execP15]
        { s with b6 := some b6, b3 := some b3, x3 := some x3, b4 := some b4, b7 := some b7, x1 := some x1,
                 x2 := some x2, step := .p11 } := by
  refine ⟨_, _, _, _, _, _, _, toInt_p1 b5, toInt_p2_to_p5 ac1 ac2 b2 _ oss, toInt_p6_to_p8 ac3 b1 _, toNat_p9 ac4 _,
    toNat_p10 up _ oss, toInt_p6 ac3 _, toInt_p7 b1 _, ?run⟩
  case run =>
    refine runSeq_go (exec_p1 (s := enter .p1 s) hb5) Label.noConfusion ?_
    refine runSeq_go (exec_p2 rfl hb2) Label.noConfusion ?_
    refine runSeq_go (exec_p3 rfl h2) Label.noConfusion ?_
    refine runSeq_go (exec_p4 rfl rfl) Label.noConfusion ?_
    refine runSeq_go (exec_p5 h1 rfl ho) Label.noConfusion ?_
    refine runSeq_go (exec_p6 rfl h3) Label.noConfusion ?_
    refine runSeq_go (exec_p7 rfl hb1) Label.noConfusion ?_
    refine runSeq_go (exec_p8 rfl rfl) Label.noConfusion ?_
    refine runSeq_go (exec_p9 h4 rfl) Label.noConfusion ?_
    exact runSeq_go (exec_p10 hu rfl ho) Label.noConfusion rfl

end

/-- P11 to P15 with a non-zero B4. -/
theorem compP_from_p11 {s : State} {b7 b4 : W32} (hs : s.step = .p11) (hb7 : s.b7 = some b7) (hb4 : s.b4 = some b4)
    (hne : b4.toNat ≠ 0) :
    ∃ p x1 x2 pres : W32, runSeq [execP11, execP12, execP13, execP14, execP15] s = .next
        { s with p := some p, x1 := some x1, x2 := some x2, pres := some pres, step := .g12 } ∧
      p.toInt = refP b7.toNat b4.toNat ∧ x1.toInt = refX1Out p.toInt ∧ x2.toInt = refX2Out p.toInt ∧
      pres.toInt = refPres p.toInt x1.toInt x2.toInt := by
  have hz : isZero b4 = false := Bool.eq_false_iff.2 fun h => hne ((isZero_iff_toNat b4).1 h)
  have h11 := exec_p11 hb4 hz hb7
  rw [hs] at h11
  refine ⟨_, _, _, _, ?run, toInt_p11 b7 b4, toInt_p12_p13 _, toInt_p14 _, toInt_p15 _ _ _⟩
  case run =>
    refine runSeq_go h11 Label.noConfusion ?_
    refine runSeq_go (exec_p12 rfl) Label.noConfusion ?_
    refine runSeq_go (exec_p13 rfl) Label.noConfusion ?_
    refine runSeq_go (exec_p14 rfl) Label.noConfusion ?_
    exact runSeq_go (exec_p15 rfl rfl rfl) Label.noConfusion rfl

/-- Settles O34: P1 to P10 always run; B4 decides whether P11 goes on. -/
theorem pressurePassMatchesTheFormulas : Obligations.PressurePassMatchesTheFormulas := by
  intro s ac1 ac2 ac3 ac4 b1 b2 b5 up oss h1 h2 h3 h4 hb1 hb2 hb5 hu ho
  obtain ⟨b6, b3, x3, b4, b7, x1, x2, hb6, hb3, hx3, hb4, hb7, hx1, hx2, hrun⟩ :=
    compP_to_p11 h1 h2 h3 h4 hb1 hb2 hb5 hu ho
  refine ⟨b6, b3, x3, b4, b7, hb6, hb3, hx3, hb4, hb7, fun hne => ?_, fun h0 => ⟨x1, x2, hx1, hx2, ?_⟩⟩
  · obtain ⟨p, x1', x2', pres, hrun', hvals⟩ := compP_from_p11 (s := { s with
      b6 := some b6, b3 := some b3, x3 := some x3, b4 := some b4, b7 := some b7, x1 := some x1, x2 := some x2,
      step := .p11 }) rfl rfl rfl hne
    exact ⟨p, x1', x2', pres, hrun.trans hrun', hvals⟩
  · exact hrun.trans (runSeq_cons_stop (exec_p11_zero rfl ((isZero_iff_toNat b4).2 h0)) rfl)

end Sys2Proof.Machine

/-! Proofs of the statements of 43_conditioning.md: CHECK_ID, UNPACK_CAL, ASM_UT, CLAMP and ASM_UP (R221 to R225), the
commands and the waits (R226 to R228), and the four reads (R229). -/

namespace Sys2Proof.Machine

/-! ## Bytes as integers -/

theorem toNat_cat2 (a b : Byte) : (cat2 a b).toNat = a.toNat * 256 + b.toNat := toNat_append_bytes a b

theorem toNat_cat3 (a b c : Byte) : (cat3 a b c).toNat = a.toNat * 65536 + b.toNat * 256 + c.toNat := by
  have hcat : (a ++ b ++ c).toNat = (a ++ b).toNat * 256 + c.toNat := by
    rw [BitVec.toNat_append (a ++ b) c, ← Nat.shiftLeft_add_eq_or_of_lt c.isLt, Nat.shiftLeft_eq]
  have hc := c.isLt
  have hb := b.isLt
  have ha := a.isLt
  rw [toNat_append_bytes] at hcat
  rw [cat3, BitVec.toNat_setWidth, hcat]
  omega

/-- The signed reading of a 16-bit pattern (R11). -/
theorem half_toInt_eq (h : Half) : h.toInt = refSext h.toNat := by
  rw [BitVec.toInt_eq_toNat_cond, refSext]
  split <;> split <;> omega

section
variable {s : State}

theorem latched_eq_getD {i : Nat} (hi : i < s.latch.length) : latched s i = s.latch.getD i 0 := by
  simp [latched, List.getD_eq_getElem?_getD, hi]

/-- Entry `k` of a payload that has been received, as an unsigned integer (R222). -/
theorem toNat_calField {k : Nat} (hk : 2 * k + 1 < s.latch.length) :
    ((calField s k).toNat : Int) = refField s.latch k := by
  rw [calField, toNat_cat2, latched_eq_getD (by omega), latched_eq_getD hk, refField]
  push_cast
  rfl

theorem toInt_calField {k : Nat} (hk : 2 * k + 1 < s.latch.length) :
    (calField s k).toInt = refSext (refField s.latch k) := by
  rw [half_toInt_eq, toNat_calField hk]

/-! ## The conditioning operations -/

/-- CAL after UNPACK_CAL holds the integers of the payload. -/
theorem unpackCal_holds (h : s.latch.length = 22) : (unpackCal s).cal.holds (payloadInts s.latch) := by
  have hs : ∀ k < 11, some (calField s k).toInt = some (refSext (refField s.latch k)) :=
    fun k hk => congrArg some (toInt_calField (by omega))
  have hu : ∀ k < 11, some ((calField s k).toNat : Int) = some (refField s.latch k) :=
    fun k hk => congrArg some (toNat_calField (by omega))
  simp only [Cal.holds, unpackCal, advance_cal, payloadInts, Option.map_some]
  exact ⟨hs 0 (by decide), hs 1 (by decide), hs 2 (by decide), hu 3 (by decide), hu 4 (by decide), hu 5 (by decide),
    hs 6 (by decide), hs 7 (by decide), hs 8 (by decide), hs 9 (by decide), hs 10 (by decide)⟩

theorem toNat_clampMode (m : Byte) : (clampMode m).toNat = min m.toNat 3 := by
  unfold clampMode
  split
  · change 3 = min m.toNat 3
    omega
  · rw [BitVec.toNat_setWidth]
    omega

/-- UP from the three bytes: the shift leaves 16 + OSS bits, so the register of 19 loses none (R36, R225). -/
theorem toNat_asmUp (v0 v1 v2 : Byte) (oss : BitVec 2) :
    ((((lsr (cat3 v0 v1 v2) (8 - oss.toNat)).setWidth 19).toNat : Int) = refUp v0 v1 v2 oss.toNat) ∧
      ((lsr (cat3 v0 v1 v2) (8 - oss.toNat)).setWidth 19).toNat < 2 ^ (16 + oss.toNat) := by
  have h0 := v0.isLt
  have h1 := v1.isLt
  have h2 := v2.isLt
  rw [BitVec.toNat_setWidth, toNat_lsr, toNat_cat3, refUp]
  obtain ho | ho | ho | ho : oss.toNat = 0 ∨ oss.toNat = 1 ∨ oss.toNat = 2 ∨ oss.toNat = 3 := by
    have := oss.isLt
    omega
  all_goals
    rw [ho]
    omega

theorem exec_asmUp {oss : BitVec 2} (ho : s.oss = some oss) :
    exec .asmUp s = .next { s with
      up := some ((lsr (cat3 (latched s 0) (latched s 1) (latched s 2)) (8 - oss.toNat)).setWidth 19),
      step := nextLabel s.step } := by
  simp [exec, execAsmUp, advance, ho]

end

/-- Settles O35: the compare is of the whole byte. -/
theorem checkIdComparesTheWholeByte : Obligations.CheckIdComparesTheWholeByte := by
  refine ⟨fun s h => ?_, fun s h => ?_, fun s id rest h => by simp [latched, h]⟩
  · obtain ⟨-, he⟩ | ⟨hne, -⟩ := checkId_cases (s := s) rfl
    · exact congrArg Host.Outcome.next he
    · exact absurd h hne
  · obtain ⟨he, -⟩ | ⟨-, he⟩ := checkId_cases (s := s) rfl
    · exact absurd he h
    · exact congrArg Host.Outcome.next he

/-- Settles O36: entry by entry. -/
theorem unpackCalLoadsTheElevenEntries : Obligations.UnpackCalLoadsTheElevenEntries :=
  fun _ h => ⟨_, unpackCal_holds h, rfl⟩

/-- Settles O37: the first byte is the high one, and the clamp is the minimum. -/
theorem asmUtAndClampSetTheirRegisters : Obligations.AsmUtAndClampSetTheirRegisters :=
  ⟨fun s => ⟨_, rfl, toNat_cat2 (latched s 0) (latched s 1)⟩, fun s => ⟨_, rfl, toNat_clampMode s.modeIn⟩⟩

/-- Settles O38: the integer and the bound are those of `toNat_asmUp`. -/
theorem asmUpRightJustifiesTheSample : Obligations.AsmUpRightJustifiesTheSample :=
  fun _ oss ho => ⟨_, exec_asmUp ho, toNat_asmUp _ _ _ oss⟩

/-! ## The commands and the waits -/

theorem pDelay_eq_refDelay (oss : BitVec 2) : pDelay oss = refDelay oss.toNat := by
  revert oss
  decide

theorem toNat_startPByte (oss : BitVec 2) : (startPByte oss).toNat = 0x34 + oss.toNat * 64 := by
  revert oss
  decide

section
variable {s : State}

theorem exec_selectDelay_temperature (h : callWait s.waitCap 5 = .returns) :
    exec (.selectDelay .temperature) s = .next { s with trace := s.trace ++ [.wait 5], step := nextLabel s.step } :=
  wait_eq_next.2 ⟨h, rfl⟩

theorem selectDelay_pressure_waits {oss : BitVec 2} (ho : s.oss = some oss) :
    exec (.selectDelay .pressure) s = wait (refDelay oss.toNat) s := by
  rw [exec, execSelectDelay, ho, need_some, pDelay_eq_refDelay]

theorem exec_selectDelay_pressure {oss : BitVec 2} (h : callWait s.waitCap (refDelay oss.toNat) = .returns)
    (ho : s.oss = some oss) :
    exec (.selectDelay .pressure) s = .next
      { s with trace := s.trace ++ [.wait (refDelay oss.toNat)], step := nextLabel s.step } :=
  (selectDelay_pressure_waits ho).trans (wait_eq_next.2 ⟨h, rfl⟩)

end

/-- Settles O39: the delay is the listed one, and the wait is the capability's call. -/
theorem selectDelayWaitsTheListedUnits : Obligations.SelectDelayWaitsTheListedUnits :=
  ⟨fun _ h => exec_selectDelay_temperature h, fun _ _ h ho => exec_selectDelay_pressure h ho,
    fun _ h => wait_eq_fault.2 ⟨h, rfl⟩,
    fun _ _ h ho => (selectDelay_pressure_waits ho).trans (wait_eq_fault.2 ⟨h, rfl⟩)⟩

/-- Settles O40: one entry, of the command's byte. -/
theorem commandsWriteTheirByte : Obligations.CommandsWriteTheirByte :=
  ⟨fun _ => rfl, fun _ oss => ⟨startPByte oss, toNat_startPByte oss, rfl⟩⟩

/-! ## The four reads -/

/-- A read operation is the BusRead of its row (R103). -/
theorem exec_of_readOf {i : Instr} {reg : Byte} {n : Nat} (h : readOf i = some (reg, n)) (s : State) :
    exec i s = .next (busRead reg n s) := by
  cases i <;> cases h <;> rfl

theorem fullRead_eq (reg : Byte) (n : Nat) {s : State} :
    fullRead reg n s =
      { s with latch := answerBytes s.draws n (answerScript s), rxq := [], replies := s.replies.tail,
               draws := s.draws + 1, trace := s.trace ++ readEvents reg (answerBytes s.draws n (answerScript s)),
               step := nextLabel s.step } := by
  simp [fullRead, readEvents, advance, busRequest, record]

/-- The next scripted answer, where it has the bytes asked for (R74, R88). -/
theorem scripted_answer {s : State} {a : Nat} {bs : List Byte} {rest : List Reply}
    (hr : s.replies = { avail := a, bytes := bs } :: rest) (ha : bs.length ≤ a) :
    answerCount s bs.length = bs.length ∧ answerBytes s.draws bs.length (answerScript s) = bs := by
  refine ⟨?_, ?_⟩
  · rw [answerCount, hr]
    exact Nat.min_eq_right ha
  · rw [answerScript, hr]
    exact answerBytes_scripted _ bs

/-- Settles O41: the two outcomes of a BusRead, and the next scripted answer. -/
theorem fullReadsLatchTheBytes : Obligations.FullReadsLatchTheBytes := by
  refine ⟨fun i reg n s hi hn => ?_, fun s a bs rest hr ha => scripted_answer hr ha⟩
  rw [exec_of_readOf hi, busRead_full hn, ← fullRead_eq]
  rfl

/-- Settles O42: the queue holds what the transport answered. -/
theorem shortReadsReportTheBus : Obligations.ShortReadsReportTheBus := by
  intro i reg n s hi hn
  refine ⟨answerBytes s.draws (answerCount s n) (answerScript s), answerBytes_length _ _ _, ?_⟩
  rw [exec_of_readOf hi, busRead_short hn]
  rfl

end Sys2Proof.Machine

/-! Proofs of the statements of 44_session.md on how the host operations end: BEGIN (R250, R252 to R254, R343),
GET_PRESSURE (R255, R257, R258), GET_LAST_TEMPERATURE (R259), and the return to IDLE (R45, R307, R308). -/

namespace Sys2Proof.Machine

/-! ## How a statement can end its operation -/

/-- A statement that leaves STEP at IDLE raised an error, or is one of the returns. -/
inductive Ending (s t : State) : Prop
  | error {st : Status} : st ≠ .ok → errorAt s.step = some st ∨ st = .bus → t.status = some st → t.value = none →
      t.session = s.session → t.cal = s.cal → t.lastT = s.lastT → t.lastTValid = s.lastTValid → Ending s t
  | b6 : s.step = .b6 → t = stmtB6 s → Ending s t
  | g12 {temp pres : W32} : s.step = .g12 → s.t = some temp → s.pres = some pres →
      t = finish (some pres) { s with lastT := some temp, lastTValid := true } → Ending s t
  | answer {v : W32} : s.step = .l1 ∨ s.step = .l2 → t = finish (some v) s → Ending s t

theorem Err.status_ne_ok (e : Err) : e.status ≠ .ok := by cases e <;> exact Status.noConfusion

theorem Effect.ending {s t : State} (h : Effect s t) (ht : t.step = .idle) : Ending s t := by
  /- No label of a statement that advances is the last of its listing. -/
  have hgoes : ∀ l, nextLabel l = .idle → l ∉ [.b3, .g0, .g6, .g11, .l0, .l1] ∧ l ∉ [.g2, .g3, .g7, .g8] ∧
      writtenAt l = none ∧ readAt l = none ∧ l ≠ .b1 ∧ l ≠ .b5 := by
    intro l
    cases l <;> decide
  cases h with
  | pass hs =>
    obtain ⟨hpass, -⟩ := hgoes _ ht
    exact absurd hs hpass
  | record hs =>
    obtain ⟨-, hrecord, -⟩ := hgoes _ ht
    exact absurd hs hrecord
  | write hr hw =>
    obtain ⟨-, -, hwritten, -⟩ := hgoes _ (hw.step ▸ ht)
    simp [hr] at hwritten
  | fullRead hr =>
    obtain ⟨-, -, -, hread, -⟩ := hgoes _ ht
    simp [hr] at hread
  | b1 hs =>
    obtain ⟨-, -, -, -, h1, -⟩ := hgoes _ ht
    exact absurd hs h1
  | b5 hs =>
    obtain ⟨-, -, -, -, -, h5⟩ := hgoes _ ht
    exact absurd hs h5
  | @shortRead reg n hr hn => exact .error (st := .bus) (by decide) (.inr rfl) rfl rfl rfl rfl rfl rfl
  | @fail e he => exact .error e.status_ne_ok (.inl he) rfl rfl rfl rfl rfl rfl
  | b6 hs => exact .b6 hs rfl
  | g12 hs htemp hpres => exact .g12 hs htemp hpres rfl
  | answer hs => exact .answer hs rfl

/-- An operation that goes on ends with the ending of its last statement, which is reached with everything as at the
start that the statements inside the operation keep. -/
theorem ending_of_path {α : Type} {f : State → α} {L : List Label} {s t : State} (hp : Path L s t) (hs : s.step ≠ .idle)
    (ht : t.step = .idle) (hf : ∀ u v, u.step ∈ L → v.step ∈ L → Effect u v → f v = f u) :
    ∃ u, u.step ∈ L ∧ Ending u t ∧ f u = f s := by
  obtain rfl | ⟨u, hu, he, hfu⟩ := hp.last hf
  · exact absurd ht hs
  · exact ⟨u, hu, he.ending ht, hfu⟩

/-! ## BEGIN -/

theorem runTotal_stop {f : State → State} {fs : List (State → State)} {s t : State} (h : f s = t)
    (hi : t.step = .idle) : runTotal (f :: fs) s = t := by
  subst h
  simp [runTotal, hi]

theorem runTotal_go {f : State → State} {fs : List (State → State)} {s t : State} (h : f s = t)
    (hi : t.step ≠ .idle) : runTotal (f :: fs) s = runTotal fs t := by
  subst h
  simp [runTotal, hi]

/-- BusRead does one of two things, the second by name. -/
theorem busRead_short_or_full (reg : Byte) (n : Nat) (s : State) :
    busRead reg n s = raise (.bus reg n (answerCount s n)) (busRequest reg n s) ∨ busRead reg n s = fullRead reg n s :=
  (busRead_cases reg n s).imp And.right And.right

/-- Settles O44: READ_ID, CHECK_ID and READ_CAL may each end BEGIN, before UNPACK_CAL; else B.6 does. -/
theorem beginEndsReadyOrUninitialised : Obligations.BeginEndsReadyOrUninitialised := by
  intro s
  refine ⟨_, rfl, ?_⟩
  rw [runTotal_go (f := stmtB1) rfl Label.noConfusion]
  obtain he | he := busRead_short_or_full regId 1 (stmtB1 (present 0b00 s.modeIn .b1 s))
  · rw [runTotal_stop he rfl]
    exact ⟨rfl, rfl, rfl, .inr ⟨.inr rfl, rfl, rfl, rfl⟩⟩
  rw [runTotal_go he Label.noConfusion]
  obtain ⟨-, hc⟩ | ⟨-, hc⟩ := checkId_cases (s := fullRead regId 1 (stmtB1 (present 0b00 s.modeIn .b1 s))) rfl
  · rw [runTotal_go hc Label.noConfusion]
    obtain hr | hr := busRead_short_or_full regCal calBytes
      (advance (fullRead regId 1 (stmtB1 (present 0b00 s.modeIn .b1 s))))
    · rw [runTotal_stop hr rfl]
      exact ⟨rfl, rfl, rfl, .inr ⟨.inr rfl, rfl, rfl, rfl⟩⟩
    · rw [runTotal_go hr Label.noConfusion, runTotal_go (f := unpackCal) rfl Label.noConfusion,
        runTotal_stop (f := stmtB6) rfl rfl]
      exact ⟨rfl, rfl, rfl, .inl ⟨rfl, rfl, rfl⟩⟩
  · rw [runTotal_stop hc rfl]
    exact ⟨rfl, rfl, rfl, .inr ⟨.inl rfl, rfl, rfl, rfl⟩⟩

/-- A read that the script answers in full (R76, R88). -/
theorem exec_read_scripted {i : Instr} {reg : Byte} {a : Nat} {bs : List Byte} {rest : List Reply} {s : State}
    (hi : readOf i = some (reg, bs.length)) (hr : s.replies = { avail := a, bytes := bs } :: rest) (ha : bs.length ≤ a) :
    exec i s = .next { s with latch := bs, rxq := [], replies := rest, draws := s.draws + 1,
                              trace := s.trace ++ readEvents reg bs, step := nextLabel s.step } := by
  obtain ⟨hcount, hbytes⟩ := scripted_answer hr ha
  rw [fullReadsLatchTheBytes.1 i reg bs.length s hi hcount, hbytes, hr]
  rfl

/-- Settles O43: both reads are answered in full, and the identity byte is the expected one. -/
theorem beginLoadsTheCalibration : Obligations.BeginLoadsTheCalibration := by
  intro s a₁ a₂ c rest hr h1 h2 hc
  refine ⟨_, unpackCal_holds (s := { s with latch := c, draws := s.draws + 2 }) hc, ?_⟩
  rw [exec, execBegin_eq_runSeq]
  refine runSeq_go (t := stmtB1 (present 0b00 s.modeIn .b1 s)) rfl Label.noConfusion ?_
  refine runSeq_go (exec_read_scripted (i := .readId) (bs := [0x55]) rfl hr h1) Label.noConfusion ?_
  refine runSeq_go (checkIdComparesTheWholeByte.1 _ rfl) Label.noConfusion ?_
  refine runSeq_go (exec_read_scripted (i := .readCal) (bs := c) (by rw [hc]; rfl) rfl (by omega)) Label.noConfusion ?_
  exact runSeq_go (t := unpackCal _) rfl Label.noConfusion (runSeq_total_stop rfl rfl)

/-! ## GET_LAST_TEMPERATURE, and the session test of GET_PRESSURE -/

/-- Settles O45: G.0 ends the operation. -/
theorem getPressureNeedsReady : Obligations.GetPressureNeedsReady :=
  fun s m h => runSeq_total_stop (requireReady_uninit (s := present 0b01 m .g0 s) h) rfl

/-- Settles O49: L.0, L.1 or L.2 ends the operation. -/
theorem getLastTemperatureAnswers : Obligations.GetLastTemperatureAnswers := by
  refine ⟨fun s h => runSeq_total_stop (requireReady_uninit (s := present 0b10 s.modeIn .l0 s) h) rfl,
    fun s h hv => ?_, fun s t h hv ht => ?_⟩
  · refine runSeq_go (congrArg Host.Outcome.next (requireReady_ready (s := present 0b10 s.modeIn .l0 s) h))
      Label.noConfusion ?_
    exact runSeq_total_stop (stmtL1_invalid (s := advance (present 0b10 s.modeIn .l0 s)) hv) rfl
  · refine runSeq_go (congrArg Host.Outcome.next (requireReady_ready (s := present 0b10 s.modeIn .l0 s) h))
      Label.noConfusion ?_
    refine runSeq_go (congrArg Host.Outcome.next (stmtL1_valid (s := advance (present 0b10 s.modeIn .l0 s)) hv))
      Label.noConfusion ?_
    exact runSeq_cons_stop (stmtL2_written (s := advance (advance (present 0b10 s.modeIn .l0 s))) ht) rfl

/-! ## GET_PRESSURE commits only on success -/

/-- What a GET_PRESSURE leaves alone until it commits (R257). -/
def State.uncommitted (s : State) : Session × Cal × Option W32 × Bool := (s.session, s.cal, s.lastT, s.lastTValid)

theorem pressureLabels_errors :
    ∀ l ∈ pressureLabels, errorAt l ∈ [none, some .notReady, some .div0Temp, some .div0Pres] := by decide

theorem pressureLabels_apart : ∀ l ∈ pressureLabels, l ∉ [.idle, .b1, .b5, .b6, .l1, .l2] := by decide

theorem Effect.uncommitted {u v : State} (hu : u.step ∈ pressureLabels) (hv : v.step ∈ pressureLabels)
    (he : Effect u v) : v.uncommitted = u.uncommitted := by
  have hapart := pressureLabels_apart _ hu
  simp only [List.mem_cons, not_or] at hapart
  obtain ⟨-, h1, h5, h6, -⟩ := hapart
  have h12 : u.step ≠ .g12 := by
    intro h12
    obtain ⟨_, _, -, -, rfl⟩ := he.at_g12 h12
    exact absurd (.head _) (pressureLabels_apart _ hv)
  rw [State.uncommitted, he.session h1 h6, he.cal h5, he.lastT h12, he.lastTValid h6 h12, State.uncommitted]

/-- Settles O48: until its last statement nothing is committed; that statement is G.12, or raises an error. -/
theorem getPressureCommitsOnlyOnSuccess : Obligations.GetPressureCommitsOnlyOnSuccess := by
  intro s t m h
  obtain ⟨hp, ht⟩ := getPressure_path h
  obtain ⟨u, hu, hend, hkeep⟩ := ending_of_path hp (by simp) ht fun _ _ => Effect.uncommitted
  obtain ⟨hses, hcal, hlastT, hvalid⟩ : u.session = s.session ∧ u.cal = s.cal ∧ u.lastT = s.lastT ∧
      u.lastTValid = s.lastTValid := by simpa [State.uncommitted] using hkeep
  cases hend with
  | @error st hne hst hstatus hvalue hses' hcal' hlastT' hvalid' =>
    refine ⟨ht, hses'.trans hses, hcal'.trans hcal, .inr ⟨?_, hlastT'.trans hlastT, hvalid'.trans hvalid, ?_⟩⟩
    · rw [hstatus]
      obtain hst | rfl := hst
      · have := pressureLabels_errors _ hu
        rw [hst] at this
        simp at this ⊢
        tauto
      · simp
    · rw [readValue, hvalue]
  | @g12 temp pres _ hut hup he =>
    have hok : t.status = some .ok := by rw [he]; rfl
    obtain ⟨rs, -, hends⟩ := getPressure_ends h
    subst he
    exact ⟨ht, hses, hcal, .inl ⟨rfl, rfl, hut.symm, rfl, hup.symm, (hends.tests_of_ok hok).1⟩⟩
  | b6 hs => exact absurd (by simp [hs]) (pressureLabels_apart _ hu)
  | answer hs => exact absurd (by obtain hs | hs := hs <;> simp [hs]) (pressureLabels_apart _ hu)

/-! ## Every host operation ends -/

/-- A host operation that goes on ends at IDLE, by a statement of its own listing. -/
theorem hostOp_ending {i : Instr} {s t : State} (hi : isHostOp i = true) (h : exec i s = .next t) :
    t.step = .idle ∧ ∃ u, Ending u t ∧ (u.step ∈ beginLabels ↔ i = .beginOp) := by
  have hother : ∀ l ∈ pressureLabels ++ lastLabels, l ∉ beginLabels := by decide
  have hending : ∀ {L : List Label} {s : State}, Path L s t → s.step ≠ .idle → t.step = .idle →
      ∃ u, u.step ∈ L ∧ Ending u t := fun hp hs ht => by
    obtain ⟨u, hu, he, -⟩ := ending_of_path (f := fun _ => ()) hp hs ht fun _ _ _ _ _ => rfl
    exact ⟨u, hu, he⟩
  cases i with
  | beginOp =>
    obtain ⟨hp, ht⟩ := begin_path h
    obtain ⟨u, hu, he⟩ := hending hp (by simp) ht
    exact ⟨ht, u, he, by simpa using hu⟩
  | getPressure m =>
    obtain ⟨hp, ht⟩ := getPressure_path h
    obtain ⟨u, hu, he⟩ := hending hp (by simp) ht
    exact ⟨ht, u, he, by simpa using hother _ (List.mem_append_left _ hu)⟩
  | getLastTemperature =>
    obtain ⟨hp, ht⟩ := getLastTemperature_path h
    obtain ⟨u, hu, he⟩ := hending hp (by simp) ht
    exact ⟨ht, u, he, by simpa using hother _ (List.mem_append_right _ hu)⟩
  | _ => cases hi

/-- The host's reads of its two ports after an ending (R45, R307 (1)). -/
theorem ports_of_ending {i : Instr} {u t : State} (he : Ending u t) (hu : u.step ∈ beginLabels ↔ i = .beginOp) :
    ∃ st, readStatus t = .ok st ∧ ((∃ v, readValue t = .ok v) ↔ st = .ok ∧ i ≠ .beginOp) := by
  cases he with
  | @error st hne _ hstatus hvalue => exact ⟨st, by rw [readStatus, hstatus], by simp [readValue, hvalue, hne]⟩
  | b6 hs ht =>
    have hi : i = .beginOp := hu.1 (by rw [hs]; decide)
    exact ⟨.ok, by rw [ht]; rfl, by simp [ht, readValue, stmtB6, hi]⟩
  | g12 hs _ _ ht =>
    have hi : i ≠ .beginOp := fun hi => absurd (hu.2 hi) (by rw [hs]; decide)
    exact ⟨.ok, by rw [ht]; rfl, by simp [ht, readValue, hi]⟩
  | answer hs ht =>
    have hi : i ≠ .beginOp := fun hi => absurd (hu.2 hi) (by obtain hs | hs := hs <;> rw [hs] <;> decide)
    exact ⟨.ok, by rw [ht]; rfl, by simp [ht, readValue, hi]⟩

/-- Settles O52: the last statement sets STEP to IDLE and writes both ports. -/
theorem hostOperationsEndIdle : Obligations.HostOperationsEndIdle := by
  intro i s t hi h
  obtain ⟨ht, u, he, hu⟩ := hostOp_ending hi h
  obtain ⟨st, hst, hval⟩ := ports_of_ending he hu
  refine ⟨ht, fun hnone => ?_, fun r rest hq => fetch_idle ht hq, st, hst, hval⟩
  simp [readStatus, hnone] at hst

end Sys2Proof.Machine

/-! Proofs of the statements on what a GET_PRESSURE computes (R256, R257, R303, R304, R347, R351): the two stretches of
its listing between the passes, the passes over calibration integers, and the whole. -/

namespace Sys2Proof.Machine

/-! ## The passes over calibration integers -/

section
variable {s : State} {c : CalInts}

/-- COMP_T where the rules give a temperature (R160). -/
theorem compT_of_refCompT {ut : Half} {x1 x2 b5 temp : Int} (hc : s.cal.holds c) (hut : s.ut = some ut)
    (href : refCompT c ut.toNat = some (x1, x2, b5, temp)) :
    ∃ x1' x2' b5' temp' : W32,
      exec .compT s = .next
        { s with x1 := some x1', x2 := some x2', b5 := some b5', t := some temp', step := .g7 } ∧
      b5'.toInt = b5 ∧ temp'.toInt = temp := by
  simp only [Cal.holds, Option.map_eq_some_iff] at hc
  obtain ⟨-, -, -, -, ⟨ac5, h5, hc5⟩, ⟨ac6, h6, hc6⟩, -, -, -, ⟨mc, hmc, hcmc⟩, ⟨md, hmd, hcmd⟩⟩ := hc
  have hx1 := toInt_t1 ut ac5 ac6
  simp only [refCompT, ← hc5, ← hc6, ← hcmc, ← hcmd, ← hx1] at href
  split at href
  · cases href
  next hd =>
    cases href
    have hz := Bool.eq_false_iff.2 fun h => hd ((isZero_divisor _ md).1 h)
    refine ⟨_, _, _, _, exec_compT hut h5 h6 hmc hmd rfl hz rfl rfl, ?_, ?_⟩
    · rw [toInt_add32, toInt_t2, refB5]
    · rw [toInt_t4, toInt_add32, toInt_t2, refB5]

/-- COMP_T where the divisor of the rules is zero (R162). -/
theorem compT_of_refCompT_none {ut : Half} (hc : s.cal.holds c) (hut : s.ut = some ut)
    (href : refCompT c ut.toNat = none) :
    ∃ x1 m : W32, exec .compT s = .next
      { s with x1 := some x1, status := some .div0Temp, value := none, info := some (.div0Temp x1 m), step := .idle } := by
  simp only [Cal.holds, Option.map_eq_some_iff] at hc
  obtain ⟨-, -, -, -, ⟨ac5, h5, hc5⟩, ⟨ac6, h6, hc6⟩, -, -, -, -, ⟨md, hmd, hcmd⟩⟩ := hc
  have hx1 := toInt_t1 ut ac5 ac6
  simp only [refCompT, ← hc5, ← hc6, ← hcmd, ← hx1] at href
  split at href
  next hd => exact ⟨_, _, exec_compT_zero hut h5 h6 hmd rfl ((isZero_divisor _ md).2 hd)⟩
  · cases href

/-- COMP_P where the rules give a pressure (R180). -/
theorem compP_of_refCompP {b5 : W32} {up : BitVec 19} {oss : BitVec 2} {p pres : Int} (hc : s.cal.holds c)
    (hb5 : s.b5 = some b5) (hu : s.up = some up) (ho : s.oss = some oss)
    (href : refCompP c b5.toInt up.toNat oss.toNat = some (p, pres)) :
    ∃ b6 b3 x3 b4 b7 p' x1 x2 pres' : W32,
      exec .compP s = .next
        { s with b6 := some b6, b3 := some b3, x3 := some x3, b4 := some b4, b7 := some b7, p := some p',
                 x1 := some x1, x2 := some x2, pres := some pres', step := .g12 } ∧
      b6.toInt = refB6 b5.toInt ∧
      b3.toInt = refB3 c.ac1 (refX3Low c.ac2 c.b2 (refB6 b5.toInt)) oss.toNat ∧
      x3.toInt = refX3High c.ac3 c.b1 (refB6 b5.toInt) ∧ (b4.toNat : Int) = refCompB4 c b5.toInt ∧
      (b7.toNat : Int) = refCompB7 c b5.toInt up.toNat oss.toNat ∧ p'.toInt = p ∧ x1.toInt = refX1Out p ∧
      x2.toInt = refX2Out p ∧ pres'.toInt = pres := by
  simp only [Cal.holds, Option.map_eq_some_iff] at hc
  obtain ⟨⟨ac1, h1, hc1⟩, ⟨ac2, h2, hc2⟩, ⟨ac3, h3, hc3⟩, ⟨ac4, h4, hc4⟩, -, -, ⟨b1, hb1, hcb1⟩, ⟨b2, hb2, hcb2⟩, -⟩ := hc
  obtain ⟨b6, b3, x3, b4, b7, hb6, hb3, hx3, hb4, hb7, hgo, -⟩ :=
    pressurePassMatchesTheFormulas s ac1 ac2 ac3 ac4 b1 b2 b5 up oss h1 h2 h3 h4 hb1 hb2 hb5 hu ho
  rw [hc1, hc2, hcb2, hb6] at hb3
  rw [hc3, hcb1, hb6] at hx3
  rw [hc4, hx3] at hb4
  rw [hb3] at hb7
  have hcb4 : (b4.toNat : Int) = refCompB4 c b5.toInt := hb4
  have hcb7 : (b7.toNat : Int) = refCompB7 c b5.toInt up.toNat oss.toNat := hb7
  simp only [refCompP, ← hcb4, ← hcb7] at href
  split at href
  · cases href
  next hne =>
    obtain ⟨rfl, rfl⟩ := Prod.mk.inj (Option.some.inj href)
    obtain ⟨p', x1, x2, pres', hrun, hp, hx1, hx2, hpres⟩ := hgo (by omega)
    rw [hx1, hx2] at hpres
    rw [hp] at hx1 hx2 hpres
    exact ⟨b6, b3, x3, b4, b7, p', x1, x2, pres', hrun, hb6, hb3, hx3, hcb4, hcb7, hp, hx1, hx2, hpres⟩

/-- COMP_P where B4 of the rules is zero (R191). -/
theorem compP_of_refCompP_none {b5 : W32} {up : BitVec 19} {oss : BitVec 2} (hc : s.cal.holds c)
    (hb5 : s.b5 = some b5) (hu : s.up = some up) (ho : s.oss = some oss)
    (href : refCompP c b5.toInt up.toNat oss.toNat = none) :
    ∃ b6 b3 x3 b4 b7 x1 x2 : W32, exec .compP s = .next
      { s with b6 := some b6, b3 := some b3, x3 := some x3, b4 := some b4, b7 := some b7, x1 := some x1,
               x2 := some x2, status := some .div0Pres, value := none, info := some (.div0Pres b4), step := .idle } := by
  simp only [Cal.holds, Option.map_eq_some_iff] at hc
  obtain ⟨⟨ac1, h1, hc1⟩, ⟨ac2, h2, hc2⟩, ⟨ac3, h3, hc3⟩, ⟨ac4, h4, hc4⟩, -, -, ⟨b1, hb1, hcb1⟩, ⟨b2, hb2, hcb2⟩, -⟩ := hc
  obtain ⟨b6, b3, x3, b4, b7, hb6, -, hx3, hb4, -, -, hzero⟩ :=
    pressurePassMatchesTheFormulas s ac1 ac2 ac3 ac4 b1 b2 b5 up oss h1 h2 h3 h4 hb1 hb2 hb5 hu ho
  rw [hc3, hcb1, hb6] at hx3
  rw [hc4, hx3] at hb4
  have hcb4 : (b4.toNat : Int) = refCompB4 c b5.toInt := hb4
  simp only [refCompP, ← hcb4] at href
  split at href
  next h0 =>
    obtain ⟨x1, x2, -, -, hrun⟩ := hzero (by omega)
    exact ⟨b6, b3, x3, b4, b7, x1, x2, hrun⟩
  · cases href

end

/-! ## The stretches between the passes -/

section
variable {s : State} {m u0 u1 v0 v1 v2 : Byte} {a : Nat} {rest : List Reply}

/-- The state in which GET_PRESSURE enters COMP_T. -/
def State.atCompT (s : State) (m u0 u1 : Byte) (rest : List Reply) : State :=
  { s with opSel := 0b01, modeIn := m, oss := some (clampMode m), ut := some (cat2 u0 u1), latch := [u0, u1], rxq := [],
           replies := rest, draws := s.draws + 1,
           trace := s.trace ++ [.wr 0xF4 0x2E] ++ [.wait 5] ++ readEvents 0xF6 [u0, u1], step := .g6 }

/-- G.0 to G.2 (R256). -/
theorem getPressure_to_wait (hses : s.session = .ready) :
    exec (.getPressure m) s =
      runSeq [execSelectDelay .temperature, execReadUt, execAsmUt, execCompT, stmtG7, execSelectDelay .pressure,
          execReadUp, execAsmUp, execCompP, stmtG12]
        { s with opSel := 0b01, modeIn := m, oss := some (clampMode m), trace := s.trace ++ [.wr 0xF4 0x2E],
                 step := .g3 } := by
  refine runSeq_go (congrArg Host.Outcome.next (requireReady_ready (s := present 0b01 m .g0 s) hses))
    Label.noConfusion ?_
  refine runSeq_go (f := execClamp) rfl Label.noConfusion ?_
  exact runSeq_go (f := execStartT) rfl Label.noConfusion rfl

/-- G.3 to G.5 (R256). -/
theorem runSeq_to_compT {fs : List (State → Out)} (hs : s.step = .g3) (hw : callWait s.waitCap 5 = .returns)
    (hr : s.replies = { avail := a, bytes := [u0, u1] } :: rest) (ha : 2 ≤ a) :
    runSeq (execSelectDelay .temperature :: execReadUt :: execAsmUt :: fs) s =
      runSeq fs { s with ut := some (cat2 u0 u1), latch := [u0, u1], rxq := [], replies := rest, draws := s.draws + 1,
                         trace := s.trace ++ [.wait 5] ++ readEvents 0xF6 [u0, u1], step := .g6 } := by
  have hg3 := exec_selectDelay_temperature hw
  rw [hs] at hg3
  refine runSeq_go hg3 Label.noConfusion ?_
  refine runSeq_go (exec_read_scripted (i := .readUt) (bs := [u0, u1]) rfl hr ha) Label.noConfusion ?_
  exact runSeq_go (f := execAsmUt) rfl Label.noConfusion rfl

/-- G.0 to G.5 (R256). -/
theorem getPressure_to_compT (hses : s.session = .ready) (hw : callWait s.waitCap 5 = .returns)
    (hr : s.replies = { avail := a, bytes := [u0, u1] } :: rest) (ha : 2 ≤ a) :
    exec (.getPressure m) s =
      runSeq [execCompT, stmtG7, execSelectDelay .pressure, execReadUp, execAsmUp, execCompP, stmtG12]
        (s.atCompT m u0 u1 rest) :=
  (getPressure_to_wait hses).trans (runSeq_to_compT rfl hw hr ha)

/-- The state in which GET_PRESSURE enters COMP_P, from G.7 with the OSS register at `oss`. -/
def State.atCompP (s : State) (oss : BitVec 2) (v0 v1 v2 : Byte) (rest : List Reply) : State :=
  { s with up := some ((lsr (cat3 v0 v1 v2) (8 - oss.toNat)).setWidth 19), latch := [v0, v1, v2], rxq := [],
           replies := rest, draws := s.draws + 1,
           trace := s.trace ++ [.wr 0xF4 (startPByte oss)] ++ [.wait (refDelay oss.toNat)] ++
             readEvents 0xF6 [v0, v1, v2],
           step := .g11 }

/-- G.7 to G.10 (R256). -/
theorem getPressure_to_compP {oss : BitVec 2} (hs : s.step = .g7) (ho : s.oss = some oss)
    (hw : callWait s.waitCap (refDelay oss.toNat) = .returns)
    (hr : s.replies = { avail := a, bytes := [v0, v1, v2] } :: rest) (ha : 3 ≤ a) :
    runSeq [stmtG7, execSelectDelay .pressure, execReadUp, execAsmUp, execCompP, stmtG12] s =
      runSeq [execCompP, stmtG12] (s.atCompP oss v0 v1 v2 rest) := by
  have hg7 : stmtG7 s = .next { s with trace := s.trace ++ [.wr 0xF4 (startPByte oss)], step := nextLabel s.step } :=
    need_eq_next.2 ⟨oss, ho, rfl⟩
  rw [hs] at hg7
  refine runSeq_go hg7 Label.noConfusion ?_
  refine runSeq_go (exec_selectDelay_pressure hw ho) Label.noConfusion ?_
  refine runSeq_go (exec_read_scripted (i := .readUp) (bs := [v0, v1, v2]) rfl hr ha) Label.noConfusion ?_
  exact runSeq_go (exec_asmUp ho) Label.noConfusion rfl

end

/-- The state in which GET_PRESSURE leaves COMP_T for G.7. -/
def State.afterCompT (s : State) (m u0 u1 : Byte) (rest : List Reply) (x1 x2 b5 temp : W32) : State :=
  { s.atCompT m u0 u1 rest with x1 := some x1, x2 := some x2, b5 := some b5, t := some temp, step := .g7 }

/-! ## The statements -/

theorem toNat_cat2_int (a b : Byte) : ((cat2 a b).toNat : Int) = a.toNat * 256 + b.toNat := by
  rw [toNat_cat2]
  push_cast
  rfl

/-- A GET_PRESSURE over full answers, up to the end of COMP_T, where the rules give a temperature. -/
theorem getPressure_after_compT {s : State} {c : CalInts} {m u0 u1 v0 v1 v2 : Byte} {a₁ a₂ : Nat} {rest : List Reply}
    {x1 x2 b5 tt : Int} (hses : s.session = .ready) (hw : callWait s.waitCap 5 = .returns) (hc : s.cal.holds c)
    (hr : s.replies = { avail := a₁, bytes := [u0, u1] } :: { avail := a₂, bytes := [v0, v1, v2] } :: rest)
    (h1 : 2 ≤ a₁) (h2 : 3 ≤ a₂) (hw' : callWait s.waitCap (refDelay (clampMode m).toNat) = .returns)
    (href : refCompT c (u0.toNat * 256 + u1.toNat) = some (x1, x2, b5, tt)) :
    ∃ x1' x2' b5' temp' : W32, b5'.toInt = b5 ∧ temp'.toInt = tt ∧
      exec (.getPressure m) s = runSeq [execCompP, stmtG12]
        (State.atCompP
            (s.afterCompT m u0 u1 ({ avail := a₂, bytes := [v0, v1, v2] } :: rest) x1' x2' b5' temp')
            (clampMode m) v0 v1 v2 rest) := by
  rw [← toNat_cat2_int] at href
  obtain ⟨x1', x2', b5', temp', hrun, hb5, htt⟩ :=
    compT_of_refCompT (s := s.atCompT m u0 u1 ({ avail := a₂, bytes := [v0, v1, v2] } :: rest)) hc rfl href
  refine ⟨x1', x2', b5', temp', hb5, htt, ?_⟩
  rw [getPressure_to_compT hses hw hr h1, runSeq_cons_go (f := execCompT) hrun Label.noConfusion]
  exact getPressure_to_compP rfl rfl hw' rfl h2

/-- Settles O46: the listing in its two stretches and its two passes, and then the commit. -/
theorem getPressureComputesTheFormulas : Obligations.GetPressureComputesTheFormulas := by
  intro s c m u0 u1 v0 v1 v2 a₁ a₂ rest x1 x2 b5 tt p pres hses hw hw' hc hr h1 h2 hT hP
  rw [← toNat_clampMode] at hw' hP ⊢
  obtain ⟨x1', x2', b5', temp', rfl, rfl, hrun⟩ := getPressure_after_compT hses hw hc hr h1 h2 hw' hT
  have hup := (toNat_asmUp v0 v1 v2 (clampMode m)).1
  rw [← hup] at hP
  obtain ⟨b6, b3, x3, b4, b7, p', x1o, x2o, pres', hrun', hb6, hb3, hx3, hb4, hb7, rfl, hx1, hx2, rfl⟩ :=
    compP_of_refCompP (s := State.atCompP
        (s.afterCompT m u0 u1 ({ avail := a₂, bytes := [v0, v1, v2] } :: rest) x1' x2' b5' temp')
        (clampMode m) v0 v1 v2 rest)
      hc rfl rfl rfl hP
  rw [runSeq_cons_go (f := execCompP) hrun' Label.noConfusion, runSeq_cons_stop (stmtG12_written rfl rfl) rfl] at hrun
  rw [hup] at hb7
  refine ⟨_, hrun, rfl, rfl, rfl, rfl, rfl, rfl, rfl, rfl, rfl, congrArg some (toNat_cat2 u0 u1), congrArg some hup, rfl,
    ⟨startPByte (clampMode m), toNat_startPByte _, ?_⟩, congrArg some hb6, congrArg some hb3, congrArg some hx3,
    congrArg some hb4, congrArg some hb7, congrArg some hx1, congrArg some hx2, rfl, rfl, rfl, rfl, rfl, rfl, rfl, rfl,
    rfl, rfl, rfl, rfl⟩
  simp [State.atCompP, State.afterCompT, State.atCompT]

/-- Settles O47: COMP_T ends the operation before G.7, COMP_P before G.12. -/
theorem getPressureReportsZeroDivisors : Obligations.GetPressureReportsZeroDivisors := by
  intro s c m u0 u1 v0 v1 v2 a₁ a₂ rest hses hw hc hr h1 h2
  rw [← toNat_clampMode]
  refine ⟨fun hT => ?_, fun x1 x2 b5 tt hw' hT hP => ?_⟩
  · rw [← toNat_cat2_int] at hT
    obtain ⟨x1, m', hrun⟩ :=
      compT_of_refCompT_none (s := s.atCompT m u0 u1 ({ avail := a₂, bytes := [v0, v1, v2] } :: rest)) hc rfl hT
    refine ⟨_, (getPressure_to_compT hses hw hr h1).trans (runSeq_cons_stop (f := execCompT) hrun rfl), rfl, rfl, rfl, rfl,
      ?_⟩
    simp [State.atCompT]
  · obtain ⟨x1', x2', b5', temp', rfl, rfl, hrun⟩ := getPressure_after_compT hses hw hc hr h1 h2 hw' hT
    rw [← (toNat_asmUp v0 v1 v2 (clampMode m)).1] at hP
    obtain ⟨b6, b3, x3, b4, b7, x1o, x2o, hrun'⟩ :=
      compP_of_refCompP_none (s := State.atCompP
          (s.afterCompT m u0 u1 ({ avail := a₂, bytes := [v0, v1, v2] } :: rest) x1' x2' b5' temp')
          (clampMode m) v0 v1 v2 rest)
        hc rfl rfl rfl hP
    refine ⟨_, hrun.trans (runSeq_cons_stop (f := execCompP) hrun' rfl), rfl, rfl, rfl, rfl,
      startPByte (clampMode m), toNat_startPByte _, ?_⟩
    simp [State.atCompP, State.afterCompT, State.atCompT]

end Sys2Proof.Machine

/-! Proof of the statement that every mode above 3 acts as mode 3 (R224, D7): after CLAMP no statement reads MODE_IN, so
every statement commutes with a change of that port. -/

namespace Sys2Proof.Machine

/-- An outcome with its next state changed; a stop stays. -/
def mapNext (g : State → State) : Out → Out
  | .next t => .next (g t)
  | .fault r => .fault r
  | .refused r => .refused r

section
variable {g : State → State}

@[simp] theorem mapNext_next (t : State) : mapNext g (.next t) = .next (g t) := rfl

@[simp] theorem mapNext_fault (r : Fault) : mapNext g (.fault r) = .fault r := rfl

theorem mapNext_need {α : Type} (r : RegName) (o : Option α) (k : α → Out) :
    mapNext g (need r o k) = need r o fun v => mapNext g (k v) := by
  cases o <;> rfl

theorem mapNext_ite (c : Prop) [Decidable c] (a b : Out) :
    mapNext g (if c then a else b) = if c then mapNext g a else mapNext g b := by
  split <;> rfl

theorem mapNext_eq_fault {o : Out} {r : Fault} : mapNext g o = .fault r ↔ o = .fault r := by
  cases o <;> simp [mapNext]

/-- A listing whose statements commute with a change that STEP does not see commutes with it. -/
theorem runSeq_map (hg : ∀ s, (g s).step = s.step) {fs : List (State → Out)}
    (hf : ∀ f ∈ fs, ∀ s, f (g s) = mapNext g (f s)) (s : State) : runSeq fs (g s) = mapNext g (runSeq fs s) := by
  induction fs generalizing s with
  | nil => rfl
  | cons f fs ih =>
    have hfs := hf f (by simp) s
    cases hs : f s with
    | next t =>
      rw [hs, mapNext_next] at hfs
      by_cases hi : t.step = .idle
      · rw [runSeq_cons_stop hfs ((hg t).trans hi), runSeq_cons_stop hs hi, mapNext_next]
      · rw [runSeq_cons_go hfs ((hg t).symm ▸ hi), runSeq_cons_go hs hi, ih (fun f hm => hf f (by simp [hm]))]
    | fault r =>
      rw [hs] at hfs
      rw [runSeq_cons_fault hfs, runSeq_cons_fault hs, mapNext_fault]
    | refused r =>
      rw [hs] at hfs
      rw [runSeq_cons_refused hfs, runSeq_cons_refused hs]
      rfl

end

/-! ## Statements and MODE_IN -/

/-- `s` with the port MODE_IN at `m`. -/
def State.withMode (m : Byte) (s : State) : State := { s with modeIn := m }

/-- The statement neither reads nor writes MODE_IN. -/
def IgnoresMode (f : State → Out) : Prop := ∀ m s, f (s.withMode m) = mapNext (State.withMode m) (f s)

theorem busRead_ignoresMode (reg : Byte) (n : Nat) : IgnoresMode fun s => .next (busRead reg n s) := by
  intro m s
  obtain ⟨hlt, he⟩ | ⟨hn, he⟩ := busRead_cases reg n s
  · simp only [he, busRead_short (s := s.withMode m) hlt]
    rfl
  · simp only [he, busRead_full (s := s.withMode m) hn]
    rfl

theorem wait_ignoresMode (n : Nat) : IgnoresMode (wait n) := by
  intro m s
  cases hw : callWait s.waitCap n with
  | returns => rw [wait_eq_next.2 ⟨hw, rfl⟩, (wait_eq_next (s := s.withMode m)).2 ⟨hw, rfl⟩]; rfl
  | hangs => rw [wait_eq_fault.2 ⟨hw, rfl⟩, (wait_eq_fault (s := s.withMode m)).2 ⟨hw, rfl⟩]; rfl

theorem selectDelay_ignoresMode (conv : Conversion) : IgnoresMode (execSelectDelay conv) := by
  cases conv with
  | temperature => exact wait_ignoresMode tDelay
  | pressure =>
    intro m s
    simp only [execSelectDelay, mapNext_need, ← wait_ignoresMode _ m s]
    rfl

theorem compT_ignoresMode : IgnoresMode execCompT := by
  intro m s
  refine runSeq_map (g := State.withMode m) (fun _ => rfl) ?_ (enter .t1 s)
  simp only [List.mem_cons, List.not_mem_nil, or_false, forall_eq_or_imp, forall_eq, execT1, execT2, execT3, execT4,
    mapNext_need, mapNext_ite]
  exact ⟨fun _ => rfl, fun _ => rfl, fun _ => rfl, fun _ => rfl⟩

theorem compP_ignoresMode : IgnoresMode execCompP := by
  intro m s
  refine runSeq_map (g := State.withMode m) (fun _ => rfl) ?_ (enter .p1 s)
  simp only [List.mem_cons, List.not_mem_nil, or_false, forall_eq_or_imp, forall_eq, execP1, execP2, execP3, execP4,
    execP5, execP6, execP7, execP8, execP9, execP10, execP11, execP12, execP13, execP14, execP15, mapNext_need,
    mapNext_ite]
  exact ⟨fun _ => rfl, fun _ => rfl, fun _ => rfl, fun _ => rfl, fun _ => rfl, fun _ => rfl, fun _ => rfl, fun _ => rfl,
    fun _ => rfl, fun _ => rfl, fun _ => rfl, fun _ => rfl, fun _ => rfl, fun _ => rfl, fun _ => rfl⟩

theorem stmtG7_ignoresMode : IgnoresMode stmtG7 := by
  intro m s
  simp only [stmtG7, mapNext_need]
  rfl

theorem asmUp_ignoresMode : IgnoresMode execAsmUp := by
  intro m s
  simp only [execAsmUp, mapNext_need]
  rfl

theorem stmtG12_ignoresMode : IgnoresMode stmtG12 := by
  intro m s
  simp only [stmtG12, mapNext_need]
  rfl

/-- The statements of GET_PRESSURE after CLAMP. -/
theorem afterClamp_ignoresMode :
    ∀ f ∈ [execStartT, execSelectDelay .temperature, execReadUt, execAsmUt, execCompT, stmtG7,
      execSelectDelay .pressure, execReadUp, execAsmUp, execCompP, stmtG12], IgnoresMode f := by
  simp only [List.mem_cons, List.not_mem_nil, or_false, forall_eq_or_imp, forall_eq]
  exact ⟨fun _ _ => rfl, selectDelay_ignoresMode _, busRead_ignoresMode _ _, fun _ _ => rfl, compT_ignoresMode,
    stmtG7_ignoresMode, selectDelay_ignoresMode _, busRead_ignoresMode _ _, asmUp_ignoresMode, compP_ignoresMode,
    stmtG12_ignoresMode⟩

/-! ## GET_PRESSURE -/

/-- G.0 and G.1 in READY (R224, R256). -/
theorem getPressure_after_clamp {s : State} {m : Byte} (h : s.session = .ready) :
    exec (.getPressure m) s =
      runSeq [execStartT, execSelectDelay .temperature, execReadUt, execAsmUt, execCompT, stmtG7,
        execSelectDelay .pressure, execReadUp, execAsmUp, execCompP, stmtG12]
        { s with opSel := 0b01, modeIn := m, oss := some (clampMode m), step := .g2 } := by
  refine runSeq_go (congrArg Host.Outcome.next (requireReady_ready (s := present 0b01 m .g0 s) h)) Label.noConfusion ?_
  exact runSeq_go (f := execClamp) rfl Label.noConfusion rfl

/-- The outcome of a mode from 3 up is that of mode 3, but for the port. -/
theorem getPressure_mode3 (s : State) {m : Byte} (hm : 3 ≤ m.toNat) :
    exec (.getPressure 3) s = mapNext (State.withMode 3) (exec (.getPressure m) s) := by
  cases hses : s.session with
  | uninit =>
    rw [getPressureNeedsReady s m hses, getPressureNeedsReady s 3 hses]
    rfl
  | ready =>
    have hclamp : clampMode m = clampMode 3 := by
      apply BitVec.eq_of_toNat_eq
      rw [toNat_clampMode, toNat_clampMode, Nat.min_eq_right hm]
      rfl
    rw [getPressure_after_clamp hses, getPressure_after_clamp hses, ← hclamp]
    exact runSeq_map (g := State.withMode 3) (fun _ => rfl) (fun f hf => afterClamp_ignoresMode f hf 3)
      { s with opSel := 0b01, modeIn := m, oss := some (clampMode m), step := .g2 }

/-- Settles O57: both clauses are read off `getPressure_mode3`. -/
theorem highModesActAsMode3 : Obligations.HighModesActAsMode3 := by
  intro s m hm
  have he := getPressure_mode3 s hm
  refine ⟨fun t ht => ?_, fun r => ?_⟩
  · rw [he, ht]
    rfl
  · rw [he]
    exact mapNext_eq_fault.symm

end Sys2Proof.Machine

/-! Proof of the statement that a GET_PRESSURE depends neither on MB nor on what an earlier operation left in the
registers (R34, R37, R40, R258, R260). `State.essence` forgets MB, the registers that the rest of the listing writes
before it reads them, and the ports, the queue and the latch where they are of no account; every statement gives states
of one essence outcomes of one essence. -/

namespace Sys2Proof.Machine

/-- A register's value where the rest of the listing at `l` reads it, and nothing where it does not (R40). -/
def keepLive {α : Type} (l : Label) (r : RegName) (o : Option α) : Option α :=
  if (liveAt l).contains r then o else none

/-- A port's value once the operation has ended, and nothing while it runs. -/
def keepEnded {α : Type} (l : Label) (o : Option α) : Option α := if l == .idle then o else none

/-- What of a state the rest of a GET_PRESSURE can depend on, with what it shows the host when it has ended. -/
def State.essence (s : State) : State :=
  { s with
    cal := { s.cal with mb := none }
    ut := keepLive s.step .ut s.ut
    up := keepLive s.step .up s.up
    oss := keepLive s.step .oss s.oss
    b5 := keepLive s.step .b5 s.b5
    x1 := keepLive s.step .x1 s.x1
    x2 := keepLive s.step .x2 s.x2
    x3 := keepLive s.step .x3 s.x3
    t := keepLive s.step .t s.t
    b3 := keepLive s.step .b3 s.b3
    b4 := keepLive s.step .b4 s.b4
    b6 := keepLive s.step .b6 s.b6
    b7 := keepLive s.step .b7 s.b7
    p := keepLive s.step .p s.p
    pres := keepLive s.step .pres s.pres
    status := keepEnded s.step s.status
    value := keepEnded s.step s.value
    info := keepEnded s.step s.info
    rxq := []
    latch := if bytesAt s.step == 0 then [] else s.latch
    hostQ := []
    grain := .statement }

/-- Two outcomes of one essence: the same stop, or next states of one essence. -/
def SameEssence (o o' : Out) : Prop := mapNext State.essence o = mapNext State.essence o'

/-- A step at `l` depends on the essence alone. -/
def DependsOnEssence (l : Label) : Prop :=
  ∀ s : State, s.step = l → SameEssence (step s.essence) (step s)

theorem essence_step (s : State) : s.essence.step = s.step := rfl

theorem step_of_sameEssence {l : Label} (h : DependsOnEssence l) {s s' : State} (hs : s.step = l)
    (he : s.essence = s'.essence) : SameEssence (step s) (step s') := by
  have hs' : s'.step = l := by rw [← hs, ← essence_step s, he, essence_step]
  have h' := h s' hs'
  rw [← he] at h'
  exact (h s hs).symm.trans h'

/-- The meaning at a label depends on the essence if it does in every state at that label. -/
theorem dependsOnEssence_of {l : Label} {f : State → Out} (hf : ∀ s : State, s.step = l → step s = f s)
    (h : ∀ s : State, SameEssence (f (State.essence { s with step := l })) (f { s with step := l })) :
    DependsOnEssence l := by
  intro s hs
  rw [hf s hs, hf s.essence hs]
  subst hs
  exact h s

/-- The statements of the passes. -/
theorem pass_dependsOnEssence {ls : List Label} (hls : ∀ l ∈ ls, l ∈ passLabels ∧ l ∉ [.g6, .g11]) :
    ∀ l ∈ ls, DependsOnEssence l := by
  intro l hmem
  obtain ⟨hm, hl⟩ := hls l hmem
  cases l
  case t1 | t2 | t3 | t4 | p1 | p2 | p3 | p4 | p5 | p6 | p7 | p8 | p9 | p10 | p11 | p12 | p13 | p14 | p15 =>
    refine dependsOnEssence_of (fun _ hs => step_sel hs rfl) fun s => ?_
    simp only [SameEssence, exec, execT1, execT2, execT3, execT4, execP1, execP2, execP3, execP4, execP5, execP6, execP7,
      execP8, execP9, execP10, execP11, execP12, execP13, execP14, execP15, mapNext_need, mapNext_ite]
    rfl
  case g6 | g11 => simp at hl
  all_goals simp [passLabels] at hm

/-! ## The statements outside the passes -/

theorem busRead_sameEssence {reg : Byte} {n : Nat} {s : State}
    (hfull : (fullRead reg n s.essence).essence = (fullRead reg n s).essence) :
    SameEssence (.next (busRead reg n s.essence)) (.next (busRead reg n s)) := by
  obtain ⟨hlt, he⟩ | ⟨hn, he⟩ := busRead_cases reg n s
  · rw [he, busRead_short (s := s.essence) hlt]
    rfl
  · rw [he, busRead_full (s := s.essence) hn]
    exact congrArg Host.Outcome.next hfull

theorem wait_sameEssence {n : Nat} {s : State}
    (hgo : (advance (record (.wait n) s.essence)).essence = (advance (record (.wait n) s)).essence) :
    SameEssence (wait n s.essence) (wait n s) := by
  cases hw : callWait s.waitCap n with
  | returns =>
    rw [wait_eq_next.2 ⟨hw, rfl⟩, (wait_eq_next (s := s.essence)).2 ⟨hw, rfl⟩]
    exact congrArg Host.Outcome.next hgo
  | hangs =>
    rw [wait_eq_fault.2 ⟨hw, rfl⟩, (wait_eq_fault (s := s.essence)).2 ⟨hw, rfl⟩]
    rfl

theorem requireReady_sameEssence {s : State} (hgo : (advance s.essence).essence = (advance s).essence) :
    SameEssence (.next (requireReady s.essence)) (.next (requireReady s)) := by
  cases hses : s.session with
  | ready =>
    rw [requireReady_ready hses, requireReady_ready (s := s.essence) hses]
    exact congrArg Host.Outcome.next hgo
  | uninit =>
    rw [requireReady_uninit hses, requireReady_uninit (s := s.essence) hses]
    rfl

/-- A register that the statement reads is live, so it is read from the essence. -/
theorem need_sameEssence {α : Type} {r : RegName} {o : Option α} {k k' : α → Out}
    (h : ∀ v, SameEssence (k v) (k' v)) : SameEssence (need r o k) (need r o k') := by
  cases o with
  | none => rfl
  | some v => exact h v

/-- Outcomes of one essence that go on, or stop, do so alike. -/
theorem SameEssence.of_next {t : State} {o : Out} (h : SameEssence (.next t) o) :
    ∃ t', o = .next t' ∧ t.essence = t'.essence := by
  cases o with
  | next t' => exact ⟨t', rfl, Host.Outcome.next.inj h⟩
  | fault | refused => cases h

theorem SameEssence.of_stop {o o' : Out} (h : SameEssence o o') (hstop : ∀ t, o ≠ .next t) : o' = o := by
  cases o with
  | next t => exact absurd rfl (hstop t)
  | fault | refused =>
    cases o' <;> cases h
    rfl

/-- A listing depends on the essence if each of its statements does. -/
theorem Listing.sameEssence {out : Label} {ls : List Label} {fs : List (State → Out)} (h : Listing out ls fs)
    (hd : ∀ l ∈ ls, DependsOnEssence l) {s s' : State} (hs : s.step = ls.headD out) (he : s.essence = s'.essence) :
    SameEssence (runSeq fs s) (runSeq fs s') := by
  induction h generalizing s s' with
  | nil => exact congrArg Host.Outcome.next he
  | @cons l ls f fs hf hgo _ ih =>
    have hs' : s'.step = l := by rw [← essence_step, ← he, essence_step]; exact hs
    have hsame := step_of_sameEssence (hd l (by simp)) hs he
    rw [hf s hs, hf s' hs'] at hsame
    cases hfs : f s with
    | next t =>
      rw [hfs] at hsame
      obtain ⟨t', ht', he'⟩ := hsame.of_next
      have hstep : t'.step = t.step := by rw [← essence_step, ← he', essence_step]
      by_cases hi : t.step = .idle
      · rw [runSeq_cons_stop hfs hi, runSeq_cons_stop ht' (hstep.trans hi)]
        exact congrArg Host.Outcome.next he'
      · rw [runSeq_cons_go hfs hi, runSeq_cons_go ht' (hstep.symm ▸ hi)]
        exact ih (fun l hl => hd l (by simp [hl])) ((hgo s t hs ((hf s hs).trans hfs)).resolve_left hi) he'
    | fault r =>
      rw [runSeq_cons_fault hfs, runSeq_cons_fault ((hsame.of_stop (by simp [hfs])).trans hfs)]
      rfl
    | refused r =>
      rw [runSeq_cons_refused hfs, runSeq_cons_refused ((hsame.of_stop (by simp [hfs])).trans hfs)]
      rfl

/-- Every statement of GET_PRESSURE depends on the essence alone. -/
theorem getPressure_dependsOnEssence : ∀ l ∈ getPressureLabels, DependsOnEssence l := by
  intro l hm
  cases l
  case g0 => exact dependsOnEssence_of (fun _ => step_g0) fun s => requireReady_sameEssence rfl
  case g1 => exact dependsOnEssence_of (fun _ hs => step_sel hs rfl) fun s => rfl
  case g2 => exact dependsOnEssence_of (fun _ => step_g2) fun s => rfl
  case g3 => exact dependsOnEssence_of (fun _ hs => step_sel hs rfl) fun s => wait_sameEssence rfl
  case g4 => exact dependsOnEssence_of (fun _ => step_g4) fun s => busRead_sameEssence rfl
  case g5 => exact dependsOnEssence_of (fun _ hs => step_sel hs rfl) fun s => rfl
  case g6 =>
    exact dependsOnEssence_of (fun _ hs => step_sel hs rfl) fun s =>
      listing_compT.sameEssence (pass_dependsOnEssence (by decide)) rfl rfl
  case g7 => exact dependsOnEssence_of (fun _ => step_g7) fun s => need_sameEssence fun oss => rfl
  case g8 =>
    exact dependsOnEssence_of (fun _ hs => step_sel hs rfl) fun s => need_sameEssence fun oss => wait_sameEssence rfl
  case g9 => exact dependsOnEssence_of (fun _ => step_g9) fun s => busRead_sameEssence rfl
  case g10 => exact dependsOnEssence_of (fun _ hs => step_sel hs rfl) fun s => need_sameEssence fun oss => rfl
  case g11 =>
    exact dependsOnEssence_of (fun _ hs => step_sel hs rfl) fun s =>
      listing_compP.sameEssence (pass_dependsOnEssence (by decide)) rfl rfl
  case g12 =>
    exact dependsOnEssence_of (fun _ => step_g12) fun s => need_sameEssence fun t => need_sameEssence fun pres => rfl
  all_goals simp [getPressureLabels] at hm

/-! ## The statement -/

/-- States with the same inputs have one essence where GET_PRESSURE begins. -/
theorem essence_present {s s' : State} (h : s.sameInputs s') (m : Byte) :
    (present 0b01 m .g0 s).essence = (present 0b01 m .g0 s').essence := by
  obtain ⟨hses, hcal, hlastT, hvalid, hreplies, hdraws, hwait, htrace⟩ := h
  simp [State.essence, present, hses, hcal, hlastT, hvalid, hreplies, hdraws, hwait, htrace, keepLive, liveAt, keepEnded,
    bytesAt]

/-- At IDLE the essence shows the host's results. -/
theorem sameResults_of_essence {t t' : State} (ht : t.step = .idle) (he : t.essence = t'.essence) :
    t.sameResults t' := by
  have ht' : t'.step = .idle := by rw [← essence_step, ← he, essence_step, ht]
  have hport : ∀ {α : Type} (f : State → Option α), (∀ u, f u.essence = keepEnded u.step (f u)) → f t' = f t := by
    intro α f hf
    have hk := congrArg f he
    rw [hf, hf, ht, ht'] at hk
    exact hk.symm
  exact ⟨hport State.status fun _ => rfl, hport State.value fun _ => rfl, hport State.info fun _ => rfl,
    (congrArg State.lastT he).symm, (congrArg State.lastTValid he).symm, (congrArg State.session he).symm,
    (congrArg State.trace he).symm⟩

/-- Settles O58: the two runs have one essence from their start to their end. -/
theorem getPressureIgnoresStaleRegistersAndMB : Obligations.GetPressureIgnoresStaleRegistersAndMB := by
  intro s s' t m hin h
  have hsame : SameEssence (execGetPressure m s) (execGetPressure m s') :=
    listing_getPressure.sameEssence getPressure_dependsOnEssence rfl (essence_present hin m)
  rw [show execGetPressure m s = .next t from h] at hsame
  obtain ⟨t', ht', he⟩ := hsame.of_next
  exact ⟨t', ht', sameResults_of_essence (getPressure_path h).2 he⟩

end Sys2Proof.Machine
